-- ==== Sys2Proof/Word.lean ====
section
/-! DEFINITION. The two machine words of the core (00_scope.md R7, R8): a byte and a 16-bit word. -/

namespace Sys2Proof

/-- A byte: registers A, X, Y, SP, SR and a memory cell (R7). -/
abbrev Byte := BitVec 8

/-- A word: PC and every effective address (R7). -/
abbrev Word := BitVec 16

end Sys2Proof
end

