-- ==== Sys2Proof/Machine/Bits.lean ====
section
/-! DEFINITION. The bit-field, byte-order and extension helpers of the spec's notation
(00_scope.md R8, R9). -/

namespace Sys2Proof.Machine

/-- `lo(w) = w[7:0]` (R8). -/
def lo (w : Word) : Byte := w.extractLsb' 0 8

/-- `hi(w) = w[15:8]` (R8). -/
def hi (w : Word) : Byte := w.extractLsb' 8 8

/-- `{h, l} = h * 256 + l` (R8). -/
def word (h l : Byte) : Word := h ++ l

/-- `zext_16(b) = b` (R9). -/
def zext16 (b : Byte) : Word := b.setWidth 16

/-- `sext_16(b)`: the byte as a two's-complement integer, mod 65536 (R9). -/
def sext16 (b : Byte) : Word := b.signExtend 16

/-- `bool(c)` as a number (R9). -/
def bit (c : Bool) : Nat := if c then 1 else 0

end Sys2Proof.Machine
end

