-- ==== Sys2Proof/Config.lean ====
section
/-! DEFINITION. What the spec fixes once for the core (00_scope.md R7): reset values and memory
geometry. There is no free value: the spec leaves no result open (93_implementation_defined.md).
The open parameters CYCLE_WIDTH and BASE_CYCLES are an argument of the machine
(Sys2Proof.Machine.Params, Sys2Proof.Machine.execWith), with their defaults in
Sys2Proof.Machine.defaultParams (log entries 1 and 2). -/

namespace Sys2Proof

/-- The number of memory cells: 65,536 (R7, 20_memory.md R50). -/
def Config.memorySize : Nat := 65536

/-- The content of a cell nothing has written: every cell is 0x00 at construction (R50, R341). -/
def Config.unlistedByte : Byte := 0x00#8

/-- SP after reset: 0xFD (10_state.md R36). -/
def Config.resetSP : Byte := 0xFD#8

/-- SR after reset: 0x24, that is I = 1, U = 1 and the other six flags 0 (R36). -/
def Config.resetSR : Byte := 0x24#8

end Sys2Proof
end

