-- ==== Sys2Proof/Machine/State.lean ====
section
/-! DEFINITION. The state of the core (10_state.md R20), all plain data, and the state after
construction and reset (R36, 70_reset_and_hazards.md R341). -/

namespace Sys2Proof.Machine

/-- One record of the diagnostic log, `Unimplemented(op, addr)` (10_state.md R33): the opcode byte
of the empty slot and the address it was fetched from. -/
structure DiagRecord where
  op   : Byte
  addr : Word
  deriving DecidableEq, Repr

/-- The state tuple `(A, X, Y, SP, SR, PC, CYC, mem, DIAG)` of R20. There is no other state (R37). -/
structure State where
  /-- accumulator (R21) -/
  a    : Byte
  /-- index register X (R22) -/
  x    : Byte
  /-- index register Y (R22) -/
  y    : Byte
  /-- stack pointer, an offset into page 0x01 (R23) -/
  sp   : Byte
  /-- status register, eight flag bits (R24) -/
  sr   : Byte
  /-- program counter (R31) -/
  pc   : Word
  /-- cycle counter (R30): a natural number, unbounded by default; under a CYCLE_WIDTH of n bits
  every charge leaves it below 2 ^ n (92_eei_decisions.md D1) -/
  cyc  : Nat
  /-- memory: the cells that do not hold `Config.unlistedByte`, by rising address (R50) -/
  mem  : List Host.Cell
  /-- diagnostic log, oldest record first (R33) -/
  diag : List DiagRecord
  deriving DecidableEq, Repr

/-- The reasons a step can stop with a fault: none. "The core never raises a fatal error or aborts
the process; every state transition is total over its input domain" (41_dispatch.md R127). The type
has no constructor, so no step can answer a fault; that is exact, neither safe nor unsafe. -/
inductive Fault where
  deriving DecidableEq, Repr

/-- The reasons a step can refuse. The spec gives every opcode an effect (R127), so the one
constructor is the required one and no arm of `exec` uses it. -/
inductive Refusal where
  /-- Raised by an arm of `exec` whose instruction has no meaning yet, and by nothing else. Safe:
  the model stops where the hardware goes on. No arm raises it now. -/
  | notModelled (mnemonic : String)
  deriving DecidableEq, Repr

/-- What a step, a meaning or a host operation answers. -/
abbrev StepResult := Host.Outcome State Fault Refusal

/-- The machine right after construction, which ends in `reset()` (R341): memory all 0x00, DIAG
empty, A = X = Y = 0, SP = 0xFD, SR = 0x24, CYC = 0, and PC the word at 0xFFFC of that zero memory.
The obligation ResetState ties it to the host operation `construct`. -/
def State.reset : State where
  a    := 0x00#8
  x    := 0x00#8
  y    := 0x00#8
  sp   := Config.resetSP
  sr   := Config.resetSR
  pc   := 0x0000#16
  cyc  := 0
  mem  := []
  diag := []

end Sys2Proof.Machine
end

