-- ==== Sys2Proof/Machine/Flags.lean ====
section
/-! DEFINITION. The status register (10_state.md R24 to R29) and every flag computation of the ALU
(43_arith_logic.md R171 to R174, 44_shift_incdec.md R200). -/

namespace Sys2Proof.Machine

/-- The eight flags of SR (R24): Carry, Zero, Interrupt-Disable, Decimal, Break, Unused, Overflow,
Negative. -/
inductive Flag where
  | C | Z | I | D | B | U | V | N
  deriving DecidableEq, Repr

/-- The bit position of a flag in SR (R24). -/
def flagBit : Flag → Nat
  | .C => 0
  | .Z => 1
  | .I => 2
  | .D => 3
  | .B => 4
  | .U => 5
  | .V => 6
  | .N => 7

/-- The mask of a flag (R24): 0x01, 0x02, 0x04, 0x08, 0x10, 0x20, 0x40, 0x80. -/
def flagMask (f : Flag) : Byte := 1#8 <<< flagBit f

/-- `SR.f`, read from a status byte (00_scope.md R10). -/
def getFlag (f : Flag) (sr : Byte) : Bool := sr.getLsbD (flagBit f)

/-- `setFlag(f, b)` on a status byte (R25): OR the mask in, or AND its complement. -/
def putFlag (f : Flag) (b : Bool) (sr : Byte) : Byte :=
  if b then sr ||| flagMask f else sr &&& ~~~(flagMask f)

/-- `SR.f` of a state. -/
def State.flag (s : State) (f : Flag) : Bool := getFlag f s.sr

/-- `SR.f <- b` (R12, R25). -/
def State.setFlag (s : State) (f : Flag) (b : Bool) : State := { s with sr := putFlag f b s.sr }

/-- `setZN(v)` (R26): Z iff the byte is zero, N its bit 7. -/
def State.setZN (s : State) (v : Byte) : State :=
  (s.setFlag .Z (v == 0#8)).setFlag .N v.msb

/-- A whole-byte write of SR, as PLP and RTI make it: the Unused bit is then 1 (R25, R29). -/
def State.writeStatus (s : State) (b : Byte) : State := { s with sr := b ||| 0x20#8 }

/-- The byte PHP and BRK push: SR with Break and Unused forced to 1
(46_stack_flags_misc.md R262, 47_interrupt_instr.md R290). -/
def statusBreakSet (sr : Byte) : Byte := sr ||| 0x30#8

/-- The byte irq() and nmi() push: Break forced to 0, Unused to 1 (60_exceptions.md R300, R302). -/
def statusBreakClear (sr : Byte) : Byte := (sr &&& ~~~0x10#8) ||| 0x20#8

/-- `adc(v)` (43_arith_logic.md R171): V is computed from A before A is written. -/
def State.adc (s : State) (v : Byte) : State :=
  let sum := s.a.toNat + v.toNat + bit (s.flag .C)
  let r := BitVec.ofNat 8 sum
  let overflow := (~~~(s.a ^^^ v) &&& (s.a ^^^ r) &&& 0x80#8) != 0#8
  ({ (s.setFlag .C (decide (sum > 255))).setFlag .V overflow with a := r }).setZN r

/-- `sbc(v)` (R172): A plus the one's complement of v plus SR.C, so C = 1 means no borrow. -/
def State.sbc (s : State) (v : Byte) : State :=
  let sum := s.a.toNat + (~~~v).toNat + bit (s.flag .C)
  let r := BitVec.ofNat 8 sum
  let overflow := ((s.a ^^^ r) &&& (s.a ^^^ v) &&& 0x80#8) != 0#8
  ({ (s.setFlag .C (decide (sum > 255))).setFlag .V overflow with a := r }).setZN r

/-- `compare(reg, v)` (R173): unsigned C, Z on equality, N from bit 7 of the difference. -/
def State.compare (s : State) (reg v : Byte) : State :=
  ((s.setFlag .C (decide (v.toNat ≤ reg.toNat))).setFlag .Z (reg == v)).setFlag .N (reg - v).msb

/-- `bitTest(m)` (R174): Z from `A & m`, N and V from bits 7 and 6 of m. -/
def State.bitTest (s : State) (m : Byte) : State :=
  ((s.setFlag .Z ((s.a &&& m) == 0#8)).setFlag .N (m.getLsbD 7)).setFlag .V (m.getLsbD 6)

/-- The four shifts and rotates: the result and the bit shifted out, from the operand and the old
carry (44_shift_incdec.md R201 to R204). -/
inductive Shift where
  | asl | lsr | rol | ror
  deriving DecidableEq, Repr

/-- The result of a shift or rotate (R201 to R204). -/
def shiftResult (k : Shift) (m : Byte) (c : Bool) : Byte :=
  match k with
  | .asl => BitVec.ofNat 8 (m.toNat * 2)
  | .lsr => BitVec.ofNat 8 (m.toNat / 2)
  | .rol => BitVec.ofNat 8 (m.toNat * 2 + bit c)
  | .ror => BitVec.ofNat 8 (m.toNat / 2 + bit c * 128)

/-- The bit a shift or rotate moves into Carry (R200): bit 7 to the left, bit 0 to the right. -/
def shiftCarry (k : Shift) (m : Byte) : Bool :=
  match k with
  | .asl => m.getLsbD 7
  | .lsr => m.getLsbD 0
  | .rol => m.getLsbD 7
  | .ror => m.getLsbD 0

end Sys2Proof.Machine
end

