-- ==== Sys2Proof/Machine/Ops.lean ====
section
/-! DEFINITION. The named operations over memory and the stack (20_memory.md R52 to R61), the
interrupt entry shared by BRK, irq() and nmi() (47_interrupt_instr.md R292) and the return RTI
(R293). -/

namespace Sys2Proof.Machine

/-- The content of the cell at an address: its listed byte, else the construction content. -/
def Memory.read : List Host.Cell → Nat → Byte
  | [], _ => Config.unlistedByte
  | c :: rest, k => if c.1 = k then c.2 else Memory.read rest k

/-- The cells without any at address `k`. -/
def Memory.erase : List Host.Cell → Nat → List Host.Cell
  | [], _ => []
  | c :: rest, k => if c.1 = k then Memory.erase rest k else c :: Memory.erase rest k

/-- The cells with `(k, v)` put before the first cell of a higher address. -/
def Memory.insert : List Host.Cell → Nat → Byte → List Host.Cell
  | [], k, v => [(k, v)]
  | c :: rest, k, v => if k < c.1 then (k, v) :: c :: rest else c :: Memory.insert rest k v

/-- Store a byte, keeping the canonical form: a cell that holds the unlisted byte is not listed. -/
def Memory.write (m : List Host.Cell) (k : Nat) (v : Byte) : List Host.Cell :=
  if v = Config.unlistedByte then Memory.erase m k else Memory.insert (Memory.erase m k) k v

/-- The canonical form of memory: addresses strictly rising, each one of the 65,536 (R50), and no
cell that holds what an unlisted cell holds. -/
abbrev Memory.wf (m : List Host.Cell) : Prop :=
  m.Pairwise (fun c d => c.1 < d.1) ∧ ∀ c ∈ m, c.1 < Config.memorySize ∧ c.2 ≠ Config.unlistedByte

/-- `MemRead(a, 1)` (R52). -/
def State.readByte (s : State) (a : Word) : Byte := Memory.read s.mem a.toNat

/-- `MemWrite(a, 1, v)` (R54). -/
def State.writeByte (s : State) (a : Word) (v : Byte) : State :=
  { s with mem := Memory.write s.mem a.toNat v }

/-- `MemRead(a, 2)`: little-endian, the high byte's address wrapping mod 65536 (R53). -/
def State.readWord (s : State) (a : Word) : Word := word (s.readByte (a + 1#16)) (s.readByte a)

/-- `ReadZP16(p)`: a pointer in page zero, the high byte's address wrapping mod 256 (R55). -/
def State.readZP16 (s : State) (p : Byte) : Word :=
  word (s.readByte (zext16 (p + 1#8))) (s.readByte (zext16 p))

/-- The stack address of an SP value: `0x0100 + SP` (10_state.md R23). -/
def stackAddr (sp : Byte) : Word := 0x0100#16 + zext16 sp

/-- `push8(v)`: store at the stack address, then decrement SP (R58). -/
def State.push8 (s : State) (v : Byte) : State :=
  { s.writeByte (stackAddr s.sp) v with sp := s.sp - 1#8 }

/-- The state `pop8()` leaves: SP incremented (R59). -/
def State.popped (s : State) : State := { s with sp := s.sp + 1#8 }

/-- The byte `pop8()` returns: the one at the incremented SP (R59). -/
def State.popByte (s : State) : Byte := s.readByte (stackAddr (s.sp + 1#8))

/-- `push16(w)`: the high byte first, then the low byte (R60). -/
def State.push16 (s : State) (w : Word) : State := (s.push8 (hi w)).push8 (lo w)

/-- The word `pop16()` returns: the low byte popped first, then the high byte (R61). -/
def State.popWord (s : State) : Word := word s.popped.popByte s.popByte

/-- The NMI vector (R65). -/
def nmiVector : Word := 0xFFFA#16

/-- The reset vector (R65). -/
def resetVector : Word := 0xFFFC#16

/-- The IRQ/BRK vector (R65). -/
def irqVector : Word := 0xFFFE#16

/-- Taking an interrupt: the one entry of BRK, irq() and nmi() (R290, R292, 60_exceptions.md R300,
R302). The return address and a status byte are pushed, I is set, and PC is loaded from the vector.
SR.B and SR.D do not change. -/
def State.enterInterrupt (s : State) (returnPC : Word) (pushed : Byte) (vector : Word) : State :=
  let framed := ((s.push16 returnPC).push8 pushed).setFlag .I true
  { framed with pc := framed.readWord vector }

/-- The return from an interrupt, RTI: status popped with Unused forced to 1, then PC, with no +1
(47_interrupt_instr.md R293). -/
def State.returnFromInterrupt (s : State) : State :=
  let restored := s.popped.writeStatus s.popByte
  { restored.popped.popped with pc := restored.popWord }

end Sys2Proof.Machine
end

