-- ==== Sys2Proof/Syntax.lean ====
section
/-! DEFINITION. The instructions as syntax: the 56 documented mnemonics and UNIMPLEMENTED
(30_encoding.md R86, R88), the thirteen addressing modes with their operand bytes (R81, R83), and
one constructor of `Instr` for each documented row of the opcode table (R87). -/

namespace Sys2Proof

/-- The mnemonics of the opcode table (R86), and UNIMPLEMENTED for the empty slots (R88). -/
inductive Mnemonic where
  | LDA | LDX | LDY | STA | STX | STY | TAX | TAY
  | TXA | TYA | TSX | TXS | ADC | SBC | AND | ORA
  | EOR | CMP | CPX | CPY | BIT | ASL | LSR | ROL
  | ROR | INC | DEC | INX | INY | DEX | DEY | JMP
  | JSR | RTS | BCC | BCS | BEQ | BMI | BNE | BPL
  | BVC | BVS | PHA | PHP | PLA | PLP | CLC | CLD
  | CLI | CLV | SEC | SED | SEI | NOP | BRK | RTI
  | UNIMPLEMENTED
  deriving DecidableEq, Repr

/-- An addressing mode with the operand its bytes give (R81, R83; 40_addressing.md R100): `i` an
immediate byte, `z` a zero-page address, `w` the little-endian word `{h, l}`, `r` a signed offset. -/
inductive Operand where
  | implied
  | accumulator
  | immediate (i : Byte)
  | zeroPage (z : Byte)
  | zeroPageX (z : Byte)
  | zeroPageY (z : Byte)
  | absolute (w : Word)
  | absoluteX (w : Word)
  | absoluteY (w : Word)
  | absoluteIndirect (w : Word)
  | indirectX (z : Byte)
  | indirectY (z : Byte)
  | relative (r : Byte)
  deriving DecidableEq, Repr

/-- The instructions: one constructor per documented opcode of R87, named by its mnemonic and mode
(`Imm` IMMEDIATE, `Zp`, `ZpX`, `ZpY` ZERO_PAGE, `Abs`, `AbsX`, `AbsY` ABSOLUTE, `Ind`
ABSOLUTE_INDIRECT, `IndX`, `IndY` INDIRECT_X and INDIRECT_Y, `Acc` ACCUMULATOR), and
`unimplemented op` for the empty slots of R88: the rows UNIMPLEMENTED, which have one mnemonic, one
format and one rule, R124, whose record names the opcode byte `op`. -/
inductive Instr where
  | ldaIndX (z : Byte)  -- 0xA1 LDA (z,X)
  | ldaZp (z : Byte)  -- 0xA5 LDA z
  | ldaImm (i : Byte)  -- 0xA9 LDA #i
  | ldaAbs (w : Word)  -- 0xAD LDA w
  | ldaIndY (z : Byte)  -- 0xB1 LDA (z),Y
  | ldaZpX (z : Byte)  -- 0xB5 LDA z,X
  | ldaAbsY (w : Word)  -- 0xB9 LDA w,Y
  | ldaAbsX (w : Word)  -- 0xBD LDA w,X
  | ldxImm (i : Byte)  -- 0xA2 LDX #i
  | ldxZp (z : Byte)  -- 0xA6 LDX z
  | ldxAbs (w : Word)  -- 0xAE LDX w
  | ldxZpY (z : Byte)  -- 0xB6 LDX z,Y
  | ldxAbsY (w : Word)  -- 0xBE LDX w,Y
  | ldyImm (i : Byte)  -- 0xA0 LDY #i
  | ldyZp (z : Byte)  -- 0xA4 LDY z
  | ldyAbs (w : Word)  -- 0xAC LDY w
  | ldyZpX (z : Byte)  -- 0xB4 LDY z,X
  | ldyAbsX (w : Word)  -- 0xBC LDY w,X
  | staIndX (z : Byte)  -- 0x81 STA (z,X)
  | staZp (z : Byte)  -- 0x85 STA z
  | staAbs (w : Word)  -- 0x8D STA w
  | staIndY (z : Byte)  -- 0x91 STA (z),Y
  | staZpX (z : Byte)  -- 0x95 STA z,X
  | staAbsY (w : Word)  -- 0x99 STA w,Y
  | staAbsX (w : Word)  -- 0x9D STA w,X
  | stxZp (z : Byte)  -- 0x86 STX z
  | stxAbs (w : Word)  -- 0x8E STX w
  | stxZpY (z : Byte)  -- 0x96 STX z,Y
  | styZp (z : Byte)  -- 0x84 STY z
  | styAbs (w : Word)  -- 0x8C STY w
  | styZpX (z : Byte)  -- 0x94 STY z,X
  | tax  -- 0xAA TAX
  | tay  -- 0xA8 TAY
  | txa  -- 0x8A TXA
  | tya  -- 0x98 TYA
  | tsx  -- 0xBA TSX
  | txs  -- 0x9A TXS
  | adcIndX (z : Byte)  -- 0x61 ADC (z,X)
  | adcZp (z : Byte)  -- 0x65 ADC z
  | adcImm (i : Byte)  -- 0x69 ADC #i
  | adcAbs (w : Word)  -- 0x6D ADC w
  | adcIndY (z : Byte)  -- 0x71 ADC (z),Y
  | adcZpX (z : Byte)  -- 0x75 ADC z,X
  | adcAbsY (w : Word)  -- 0x79 ADC w,Y
  | adcAbsX (w : Word)  -- 0x7D ADC w,X
  | sbcIndX (z : Byte)  -- 0xE1 SBC (z,X)
  | sbcZp (z : Byte)  -- 0xE5 SBC z
  | sbcImm (i : Byte)  -- 0xE9 SBC #i
  | sbcAbs (w : Word)  -- 0xED SBC w
  | sbcIndY (z : Byte)  -- 0xF1 SBC (z),Y
  | sbcZpX (z : Byte)  -- 0xF5 SBC z,X
  | sbcAbsY (w : Word)  -- 0xF9 SBC w,Y
  | sbcAbsX (w : Word)  -- 0xFD SBC w,X
  | andIndX (z : Byte)  -- 0x21 AND (z,X)
  | andZp (z : Byte)  -- 0x25 AND z
  | andImm (i : Byte)  -- 0x29 AND #i
  | andAbs (w : Word)  -- 0x2D AND w
  | andIndY (z : Byte)  -- 0x31 AND (z),Y
  | andZpX (z : Byte)  -- 0x35 AND z,X
  | andAbsY (w : Word)  -- 0x39 AND w,Y
  | andAbsX (w : Word)  -- 0x3D AND w,X
  | oraIndX (z : Byte)  -- 0x01 ORA (z,X)
  | oraZp (z : Byte)  -- 0x05 ORA z
  | oraImm (i : Byte)  -- 0x09 ORA #i
  | oraAbs (w : Word)  -- 0x0D ORA w
  | oraIndY (z : Byte)  -- 0x11 ORA (z),Y
  | oraZpX (z : Byte)  -- 0x15 ORA z,X
  | oraAbsY (w : Word)  -- 0x19 ORA w,Y
  | oraAbsX (w : Word)  -- 0x1D ORA w,X
  | eorIndX (z : Byte)  -- 0x41 EOR (z,X)
  | eorZp (z : Byte)  -- 0x45 EOR z
  | eorImm (i : Byte)  -- 0x49 EOR #i
  | eorAbs (w : Word)  -- 0x4D EOR w
  | eorIndY (z : Byte)  -- 0x51 EOR (z),Y
  | eorZpX (z : Byte)  -- 0x55 EOR z,X
  | eorAbsY (w : Word)  -- 0x59 EOR w,Y
  | eorAbsX (w : Word)  -- 0x5D EOR w,X
  | cmpIndX (z : Byte)  -- 0xC1 CMP (z,X)
  | cmpZp (z : Byte)  -- 0xC5 CMP z
  | cmpImm (i : Byte)  -- 0xC9 CMP #i
  | cmpAbs (w : Word)  -- 0xCD CMP w
  | cmpIndY (z : Byte)  -- 0xD1 CMP (z),Y
  | cmpZpX (z : Byte)  -- 0xD5 CMP z,X
  | cmpAbsY (w : Word)  -- 0xD9 CMP w,Y
  | cmpAbsX (w : Word)  -- 0xDD CMP w,X
  | cpxImm (i : Byte)  -- 0xE0 CPX #i
  | cpxZp (z : Byte)  -- 0xE4 CPX z
  | cpxAbs (w : Word)  -- 0xEC CPX w
  | cpyImm (i : Byte)  -- 0xC0 CPY #i
  | cpyZp (z : Byte)  -- 0xC4 CPY z
  | cpyAbs (w : Word)  -- 0xCC CPY w
  | bitZp (z : Byte)  -- 0x24 BIT z
  | bitAbs (w : Word)  -- 0x2C BIT w
  | aslZp (z : Byte)  -- 0x06 ASL z
  | aslAcc  -- 0x0A ASL A
  | aslAbs (w : Word)  -- 0x0E ASL w
  | aslZpX (z : Byte)  -- 0x16 ASL z,X
  | aslAbsX (w : Word)  -- 0x1E ASL w,X
  | lsrZp (z : Byte)  -- 0x46 LSR z
  | lsrAcc  -- 0x4A LSR A
  | lsrAbs (w : Word)  -- 0x4E LSR w
  | lsrZpX (z : Byte)  -- 0x56 LSR z,X
  | lsrAbsX (w : Word)  -- 0x5E LSR w,X
  | rolZp (z : Byte)  -- 0x26 ROL z
  | rolAcc  -- 0x2A ROL A
  | rolAbs (w : Word)  -- 0x2E ROL w
  | rolZpX (z : Byte)  -- 0x36 ROL z,X
  | rolAbsX (w : Word)  -- 0x3E ROL w,X
  | rorZp (z : Byte)  -- 0x66 ROR z
  | rorAcc  -- 0x6A ROR A
  | rorAbs (w : Word)  -- 0x6E ROR w
  | rorZpX (z : Byte)  -- 0x76 ROR z,X
  | rorAbsX (w : Word)  -- 0x7E ROR w,X
  | incZp (z : Byte)  -- 0xE6 INC z
  | incAbs (w : Word)  -- 0xEE INC w
  | incZpX (z : Byte)  -- 0xF6 INC z,X
  | incAbsX (w : Word)  -- 0xFE INC w,X
  | decZp (z : Byte)  -- 0xC6 DEC z
  | decAbs (w : Word)  -- 0xCE DEC w
  | decZpX (z : Byte)  -- 0xD6 DEC z,X
  | decAbsX (w : Word)  -- 0xDE DEC w,X
  | inx  -- 0xE8 INX
  | iny  -- 0xC8 INY
  | dex  -- 0xCA DEX
  | dey  -- 0x88 DEY
  | jmpAbs (w : Word)  -- 0x4C JMP w
  | jmpInd (w : Word)  -- 0x6C JMP (w)
  | jsr (w : Word)  -- 0x20 JSR w
  | rts  -- 0x60 RTS
  | bcc (r : Byte)  -- 0x90 BCC r
  | bcs (r : Byte)  -- 0xB0 BCS r
  | beq (r : Byte)  -- 0xF0 BEQ r
  | bmi (r : Byte)  -- 0x30 BMI r
  | bne (r : Byte)  -- 0xD0 BNE r
  | bpl (r : Byte)  -- 0x10 BPL r
  | bvc (r : Byte)  -- 0x50 BVC r
  | bvs (r : Byte)  -- 0x70 BVS r
  | pha  -- 0x48 PHA
  | php  -- 0x08 PHP
  | pla  -- 0x68 PLA
  | plp  -- 0x28 PLP
  | clc  -- 0x18 CLC
  | cld  -- 0xD8 CLD
  | cli  -- 0x58 CLI
  | clv  -- 0xB8 CLV
  | sec  -- 0x38 SEC
  | sed  -- 0xF8 SED
  | sei  -- 0x78 SEI
  | nop  -- 0xEA NOP
  | brk  -- 0x00 BRK
  | rti  -- 0x40 RTI
  | unimplemented (op : Byte)  -- the 105 empty slots
  deriving DecidableEq, Repr

end Sys2Proof
end

