-- ==== Sys2Proof/Decode.lean ====
section
/-! DEFINITION. The opcode map (30_encoding.md R85, R87), the decoder (R82, R90), total on any
bytes, and after it the encoder (R81) and the host's `decodeTableWord`. -/

namespace Sys2Proof

open Sys2Proof.Machine

/-- Slots 0x00 to 0x0F of the instruction table (R85, R87): `low` is the low four bits of `op`. -/
def decodeSlots0 (low : Nat) (op b1 b2 : Byte) : Instr :=
  match low with
  | 0x0 => .brk
  | 0x1 => .oraIndX b1
  | 0x5 => .oraZp b1
  | 0x6 => .aslZp b1
  | 0x8 => .php
  | 0x9 => .oraImm b1
  | 0xA => .aslAcc
  | 0xD => .oraAbs (word b2 b1)
  | 0xE => .aslAbs (word b2 b1)
  | _ => .unimplemented op

/-- Slots 0x10 to 0x1F of the instruction table (R85, R87): `low` is the low four bits of `op`. -/
def decodeSlots1 (low : Nat) (op b1 b2 : Byte) : Instr :=
  match low with
  | 0x0 => .bpl b1
  | 0x1 => .oraIndY b1
  | 0x5 => .oraZpX b1
  | 0x6 => .aslZpX b1
  | 0x8 => .clc
  | 0x9 => .oraAbsY (word b2 b1)
  | 0xD => .oraAbsX (word b2 b1)
  | 0xE => .aslAbsX (word b2 b1)
  | _ => .unimplemented op

/-- Slots 0x20 to 0x2F of the instruction table (R85, R87): `low` is the low four bits of `op`. -/
def decodeSlots2 (low : Nat) (op b1 b2 : Byte) : Instr :=
  match low with
  | 0x0 => .jsr (word b2 b1)
  | 0x1 => .andIndX b1
  | 0x4 => .bitZp b1
  | 0x5 => .andZp b1
  | 0x6 => .rolZp b1
  | 0x8 => .plp
  | 0x9 => .andImm b1
  | 0xA => .rolAcc
  | 0xC => .bitAbs (word b2 b1)
  | 0xD => .andAbs (word b2 b1)
  | 0xE => .rolAbs (word b2 b1)
  | _ => .unimplemented op

/-- Slots 0x30 to 0x3F of the instruction table (R85, R87): `low` is the low four bits of `op`. -/
def decodeSlots3 (low : Nat) (op b1 b2 : Byte) : Instr :=
  match low with
  | 0x0 => .bmi b1
  | 0x1 => .andIndY b1
  | 0x5 => .andZpX b1
  | 0x6 => .rolZpX b1
  | 0x8 => .sec
  | 0x9 => .andAbsY (word b2 b1)
  | 0xD => .andAbsX (word b2 b1)
  | 0xE => .rolAbsX (word b2 b1)
  | _ => .unimplemented op

/-- Slots 0x40 to 0x4F of the instruction table (R85, R87): `low` is the low four bits of `op`. -/
def decodeSlots4 (low : Nat) (op b1 b2 : Byte) : Instr :=
  match low with
  | 0x0 => .rti
  | 0x1 => .eorIndX b1
  | 0x5 => .eorZp b1
  | 0x6 => .lsrZp b1
  | 0x8 => .pha
  | 0x9 => .eorImm b1
  | 0xA => .lsrAcc
  | 0xC => .jmpAbs (word b2 b1)
  | 0xD => .eorAbs (word b2 b1)
  | 0xE => .lsrAbs (word b2 b1)
  | _ => .unimplemented op

/-- Slots 0x50 to 0x5F of the instruction table (R85, R87): `low` is the low four bits of `op`. -/
def decodeSlots5 (low : Nat) (op b1 b2 : Byte) : Instr :=
  match low with
  | 0x0 => .bvc b1
  | 0x1 => .eorIndY b1
  | 0x5 => .eorZpX b1
  | 0x6 => .lsrZpX b1
  | 0x8 => .cli
  | 0x9 => .eorAbsY (word b2 b1)
  | 0xD => .eorAbsX (word b2 b1)
  | 0xE => .lsrAbsX (word b2 b1)
  | _ => .unimplemented op

/-- Slots 0x60 to 0x6F of the instruction table (R85, R87): `low` is the low four bits of `op`. -/
def decodeSlots6 (low : Nat) (op b1 b2 : Byte) : Instr :=
  match low with
  | 0x0 => .rts
  | 0x1 => .adcIndX b1
  | 0x5 => .adcZp b1
  | 0x6 => .rorZp b1
  | 0x8 => .pla
  | 0x9 => .adcImm b1
  | 0xA => .rorAcc
  | 0xC => .jmpInd (word b2 b1)
  | 0xD => .adcAbs (word b2 b1)
  | 0xE => .rorAbs (word b2 b1)
  | _ => .unimplemented op

/-- Slots 0x70 to 0x7F of the instruction table (R85, R87): `low` is the low four bits of `op`. -/
def decodeSlots7 (low : Nat) (op b1 b2 : Byte) : Instr :=
  match low with
  | 0x0 => .bvs b1
  | 0x1 => .adcIndY b1
  | 0x5 => .adcZpX b1
  | 0x6 => .rorZpX b1
  | 0x8 => .sei
  | 0x9 => .adcAbsY (word b2 b1)
  | 0xD => .adcAbsX (word b2 b1)
  | 0xE => .rorAbsX (word b2 b1)
  | _ => .unimplemented op

/-- Slots 0x80 to 0x8F of the instruction table (R85, R87): `low` is the low four bits of `op`. -/
def decodeSlots8 (low : Nat) (op b1 b2 : Byte) : Instr :=
  match low with
  | 0x1 => .staIndX b1
  | 0x4 => .styZp b1
  | 0x5 => .staZp b1
  | 0x6 => .stxZp b1
  | 0x8 => .dey
  | 0xA => .txa
  | 0xC => .styAbs (word b2 b1)
  | 0xD => .staAbs (word b2 b1)
  | 0xE => .stxAbs (word b2 b1)
  | _ => .unimplemented op

/-- Slots 0x90 to 0x9F of the instruction table (R85, R87): `low` is the low four bits of `op`. -/
def decodeSlots9 (low : Nat) (op b1 b2 : Byte) : Instr :=
  match low with
  | 0x0 => .bcc b1
  | 0x1 => .staIndY b1
  | 0x4 => .styZpX b1
  | 0x5 => .staZpX b1
  | 0x6 => .stxZpY b1
  | 0x8 => .tya
  | 0x9 => .staAbsY (word b2 b1)
  | 0xA => .txs
  | 0xD => .staAbsX (word b2 b1)
  | _ => .unimplemented op

/-- Slots 0xA0 to 0xAF of the instruction table (R85, R87): `low` is the low four bits of `op`. -/
def decodeSlotsA (low : Nat) (op b1 b2 : Byte) : Instr :=
  match low with
  | 0x0 => .ldyImm b1
  | 0x1 => .ldaIndX b1
  | 0x2 => .ldxImm b1
  | 0x4 => .ldyZp b1
  | 0x5 => .ldaZp b1
  | 0x6 => .ldxZp b1
  | 0x8 => .tay
  | 0x9 => .ldaImm b1
  | 0xA => .tax
  | 0xC => .ldyAbs (word b2 b1)
  | 0xD => .ldaAbs (word b2 b1)
  | 0xE => .ldxAbs (word b2 b1)
  | _ => .unimplemented op

/-- Slots 0xB0 to 0xBF of the instruction table (R85, R87): `low` is the low four bits of `op`. -/
def decodeSlotsB (low : Nat) (op b1 b2 : Byte) : Instr :=
  match low with
  | 0x0 => .bcs b1
  | 0x1 => .ldaIndY b1
  | 0x4 => .ldyZpX b1
  | 0x5 => .ldaZpX b1
  | 0x6 => .ldxZpY b1
  | 0x8 => .clv
  | 0x9 => .ldaAbsY (word b2 b1)
  | 0xA => .tsx
  | 0xC => .ldyAbsX (word b2 b1)
  | 0xD => .ldaAbsX (word b2 b1)
  | 0xE => .ldxAbsY (word b2 b1)
  | _ => .unimplemented op

/-- Slots 0xC0 to 0xCF of the instruction table (R85, R87): `low` is the low four bits of `op`. -/
def decodeSlotsC (low : Nat) (op b1 b2 : Byte) : Instr :=
  match low with
  | 0x0 => .cpyImm b1
  | 0x1 => .cmpIndX b1
  | 0x4 => .cpyZp b1
  | 0x5 => .cmpZp b1
  | 0x6 => .decZp b1
  | 0x8 => .iny
  | 0x9 => .cmpImm b1
  | 0xA => .dex
  | 0xC => .cpyAbs (word b2 b1)
  | 0xD => .cmpAbs (word b2 b1)
  | 0xE => .decAbs (word b2 b1)
  | _ => .unimplemented op

/-- Slots 0xD0 to 0xDF of the instruction table (R85, R87): `low` is the low four bits of `op`. -/
def decodeSlotsD (low : Nat) (op b1 b2 : Byte) : Instr :=
  match low with
  | 0x0 => .bne b1
  | 0x1 => .cmpIndY b1
  | 0x5 => .cmpZpX b1
  | 0x6 => .decZpX b1
  | 0x8 => .cld
  | 0x9 => .cmpAbsY (word b2 b1)
  | 0xD => .cmpAbsX (word b2 b1)
  | 0xE => .decAbsX (word b2 b1)
  | _ => .unimplemented op

/-- Slots 0xE0 to 0xEF of the instruction table (R85, R87): `low` is the low four bits of `op`. -/
def decodeSlotsE (low : Nat) (op b1 b2 : Byte) : Instr :=
  match low with
  | 0x0 => .cpxImm b1
  | 0x1 => .sbcIndX b1
  | 0x4 => .cpxZp b1
  | 0x5 => .sbcZp b1
  | 0x6 => .incZp b1
  | 0x8 => .inx
  | 0x9 => .sbcImm b1
  | 0xA => .nop
  | 0xC => .cpxAbs (word b2 b1)
  | 0xD => .sbcAbs (word b2 b1)
  | 0xE => .incAbs (word b2 b1)
  | _ => .unimplemented op

/-- Slots 0xF0 to 0xFF of the instruction table (R85, R87): `low` is the low four bits of `op`. -/
def decodeSlotsF (low : Nat) (op b1 b2 : Byte) : Instr :=
  match low with
  | 0x0 => .beq b1
  | 0x1 => .sbcIndY b1
  | 0x5 => .sbcZpX b1
  | 0x6 => .incZpX b1
  | 0x8 => .sed
  | 0x9 => .sbcAbsY (word b2 b1)
  | 0xD => .sbcAbsX (word b2 b1)
  | 0xE => .incAbsX (word b2 b1)
  | _ => .unimplemented op

/-- The instruction whose opcode byte is `op` and whose next two bytes are `b1` and `b2`: the
256-slot table of R85 and R87, an empty slot giving `unimplemented` (R88, R90). A byte past the
instruction's length is not used. -/
def decodeBytes (op b1 b2 : Byte) : Instr :=
  match op.toNat / 16 with
  | 0x0 => decodeSlots0 (op.toNat % 16) op b1 b2
  | 0x1 => decodeSlots1 (op.toNat % 16) op b1 b2
  | 0x2 => decodeSlots2 (op.toNat % 16) op b1 b2
  | 0x3 => decodeSlots3 (op.toNat % 16) op b1 b2
  | 0x4 => decodeSlots4 (op.toNat % 16) op b1 b2
  | 0x5 => decodeSlots5 (op.toNat % 16) op b1 b2
  | 0x6 => decodeSlots6 (op.toNat % 16) op b1 b2
  | 0x7 => decodeSlots7 (op.toNat % 16) op b1 b2
  | 0x8 => decodeSlots8 (op.toNat % 16) op b1 b2
  | 0x9 => decodeSlots9 (op.toNat % 16) op b1 b2
  | 0xA => decodeSlotsA (op.toNat % 16) op b1 b2
  | 0xB => decodeSlotsB (op.toNat % 16) op b1 b2
  | 0xC => decodeSlotsC (op.toNat % 16) op b1 b2
  | 0xD => decodeSlotsD (op.toNat % 16) op b1 b2
  | 0xE => decodeSlotsE (op.toNat % 16) op b1 b2
  | _ => decodeSlotsF (op.toNat % 16) op b1 b2

/-- A row of the instruction table (10_state.md R32, R87) with its operand: mnemonic, opcode byte,
addressing mode. The base cycles are Sys2Proof.Machine.baseCycles. -/
structure Row where
  mnemonic : Mnemonic
  opcode   : Byte
  operand  : Operand
  deriving DecidableEq, Repr

/-- The row each instruction stands for (R87). -/
def rowOf (i : Instr) : Row :=
  match i with
  | .ldaIndX z => ⟨.LDA, 0xA1#8, .indirectX z⟩
  | .ldaZp z => ⟨.LDA, 0xA5#8, .zeroPage z⟩
  | .ldaImm i => ⟨.LDA, 0xA9#8, .immediate i⟩
  | .ldaAbs w => ⟨.LDA, 0xAD#8, .absolute w⟩
  | .ldaIndY z => ⟨.LDA, 0xB1#8, .indirectY z⟩
  | .ldaZpX z => ⟨.LDA, 0xB5#8, .zeroPageX z⟩
  | .ldaAbsY w => ⟨.LDA, 0xB9#8, .absoluteY w⟩
  | .ldaAbsX w => ⟨.LDA, 0xBD#8, .absoluteX w⟩
  | .ldxImm i => ⟨.LDX, 0xA2#8, .immediate i⟩
  | .ldxZp z => ⟨.LDX, 0xA6#8, .zeroPage z⟩
  | .ldxAbs w => ⟨.LDX, 0xAE#8, .absolute w⟩
  | .ldxZpY z => ⟨.LDX, 0xB6#8, .zeroPageY z⟩
  | .ldxAbsY w => ⟨.LDX, 0xBE#8, .absoluteY w⟩
  | .ldyImm i => ⟨.LDY, 0xA0#8, .immediate i⟩
  | .ldyZp z => ⟨.LDY, 0xA4#8, .zeroPage z⟩
  | .ldyAbs w => ⟨.LDY, 0xAC#8, .absolute w⟩
  | .ldyZpX z => ⟨.LDY, 0xB4#8, .zeroPageX z⟩
  | .ldyAbsX w => ⟨.LDY, 0xBC#8, .absoluteX w⟩
  | .staIndX z => ⟨.STA, 0x81#8, .indirectX z⟩
  | .staZp z => ⟨.STA, 0x85#8, .zeroPage z⟩
  | .staAbs w => ⟨.STA, 0x8D#8, .absolute w⟩
  | .staIndY z => ⟨.STA, 0x91#8, .indirectY z⟩
  | .staZpX z => ⟨.STA, 0x95#8, .zeroPageX z⟩
  | .staAbsY w => ⟨.STA, 0x99#8, .absoluteY w⟩
  | .staAbsX w => ⟨.STA, 0x9D#8, .absoluteX w⟩
  | .stxZp z => ⟨.STX, 0x86#8, .zeroPage z⟩
  | .stxAbs w => ⟨.STX, 0x8E#8, .absolute w⟩
  | .stxZpY z => ⟨.STX, 0x96#8, .zeroPageY z⟩
  | .styZp z => ⟨.STY, 0x84#8, .zeroPage z⟩
  | .styAbs w => ⟨.STY, 0x8C#8, .absolute w⟩
  | .styZpX z => ⟨.STY, 0x94#8, .zeroPageX z⟩
  | .tax => ⟨.TAX, 0xAA#8, .implied⟩
  | .tay => ⟨.TAY, 0xA8#8, .implied⟩
  | .txa => ⟨.TXA, 0x8A#8, .implied⟩
  | .tya => ⟨.TYA, 0x98#8, .implied⟩
  | .tsx => ⟨.TSX, 0xBA#8, .implied⟩
  | .txs => ⟨.TXS, 0x9A#8, .implied⟩
  | .adcIndX z => ⟨.ADC, 0x61#8, .indirectX z⟩
  | .adcZp z => ⟨.ADC, 0x65#8, .zeroPage z⟩
  | .adcImm i => ⟨.ADC, 0x69#8, .immediate i⟩
  | .adcAbs w => ⟨.ADC, 0x6D#8, .absolute w⟩
  | .adcIndY z => ⟨.ADC, 0x71#8, .indirectY z⟩
  | .adcZpX z => ⟨.ADC, 0x75#8, .zeroPageX z⟩
  | .adcAbsY w => ⟨.ADC, 0x79#8, .absoluteY w⟩
  | .adcAbsX w => ⟨.ADC, 0x7D#8, .absoluteX w⟩
  | .sbcIndX z => ⟨.SBC, 0xE1#8, .indirectX z⟩
  | .sbcZp z => ⟨.SBC, 0xE5#8, .zeroPage z⟩
  | .sbcImm i => ⟨.SBC, 0xE9#8, .immediate i⟩
  | .sbcAbs w => ⟨.SBC, 0xED#8, .absolute w⟩
  | .sbcIndY z => ⟨.SBC, 0xF1#8, .indirectY z⟩
  | .sbcZpX z => ⟨.SBC, 0xF5#8, .zeroPageX z⟩
  | .sbcAbsY w => ⟨.SBC, 0xF9#8, .absoluteY w⟩
  | .sbcAbsX w => ⟨.SBC, 0xFD#8, .absoluteX w⟩
  | .andIndX z => ⟨.AND, 0x21#8, .indirectX z⟩
  | .andZp z => ⟨.AND, 0x25#8, .zeroPage z⟩
  | .andImm i => ⟨.AND, 0x29#8, .immediate i⟩
  | .andAbs w => ⟨.AND, 0x2D#8, .absolute w⟩
  | .andIndY z => ⟨.AND, 0x31#8, .indirectY z⟩
  | .andZpX z => ⟨.AND, 0x35#8, .zeroPageX z⟩
  | .andAbsY w => ⟨.AND, 0x39#8, .absoluteY w⟩
  | .andAbsX w => ⟨.AND, 0x3D#8, .absoluteX w⟩
  | .oraIndX z => ⟨.ORA, 0x01#8, .indirectX z⟩
  | .oraZp z => ⟨.ORA, 0x05#8, .zeroPage z⟩
  | .oraImm i => ⟨.ORA, 0x09#8, .immediate i⟩
  | .oraAbs w => ⟨.ORA, 0x0D#8, .absolute w⟩
  | .oraIndY z => ⟨.ORA, 0x11#8, .indirectY z⟩
  | .oraZpX z => ⟨.ORA, 0x15#8, .zeroPageX z⟩
  | .oraAbsY w => ⟨.ORA, 0x19#8, .absoluteY w⟩
  | .oraAbsX w => ⟨.ORA, 0x1D#8, .absoluteX w⟩
  | .eorIndX z => ⟨.EOR, 0x41#8, .indirectX z⟩
  | .eorZp z => ⟨.EOR, 0x45#8, .zeroPage z⟩
  | .eorImm i => ⟨.EOR, 0x49#8, .immediate i⟩
  | .eorAbs w => ⟨.EOR, 0x4D#8, .absolute w⟩
  | .eorIndY z => ⟨.EOR, 0x51#8, .indirectY z⟩
  | .eorZpX z => ⟨.EOR, 0x55#8, .zeroPageX z⟩
  | .eorAbsY w => ⟨.EOR, 0x59#8, .absoluteY w⟩
  | .eorAbsX w => ⟨.EOR, 0x5D#8, .absoluteX w⟩
  | .cmpIndX z => ⟨.CMP, 0xC1#8, .indirectX z⟩
  | .cmpZp z => ⟨.CMP, 0xC5#8, .zeroPage z⟩
  | .cmpImm i => ⟨.CMP, 0xC9#8, .immediate i⟩
  | .cmpAbs w => ⟨.CMP, 0xCD#8, .absolute w⟩
  | .cmpIndY z => ⟨.CMP, 0xD1#8, .indirectY z⟩
  | .cmpZpX z => ⟨.CMP, 0xD5#8, .zeroPageX z⟩
  | .cmpAbsY w => ⟨.CMP, 0xD9#8, .absoluteY w⟩
  | .cmpAbsX w => ⟨.CMP, 0xDD#8, .absoluteX w⟩
  | .cpxImm i => ⟨.CPX, 0xE0#8, .immediate i⟩
  | .cpxZp z => ⟨.CPX, 0xE4#8, .zeroPage z⟩
  | .cpxAbs w => ⟨.CPX, 0xEC#8, .absolute w⟩
  | .cpyImm i => ⟨.CPY, 0xC0#8, .immediate i⟩
  | .cpyZp z => ⟨.CPY, 0xC4#8, .zeroPage z⟩
  | .cpyAbs w => ⟨.CPY, 0xCC#8, .absolute w⟩
  | .bitZp z => ⟨.BIT, 0x24#8, .zeroPage z⟩
  | .bitAbs w => ⟨.BIT, 0x2C#8, .absolute w⟩
  | .aslZp z => ⟨.ASL, 0x06#8, .zeroPage z⟩
  | .aslAcc => ⟨.ASL, 0x0A#8, .accumulator⟩
  | .aslAbs w => ⟨.ASL, 0x0E#8, .absolute w⟩
  | .aslZpX z => ⟨.ASL, 0x16#8, .zeroPageX z⟩
  | .aslAbsX w => ⟨.ASL, 0x1E#8, .absoluteX w⟩
  | .lsrZp z => ⟨.LSR, 0x46#8, .zeroPage z⟩
  | .lsrAcc => ⟨.LSR, 0x4A#8, .accumulator⟩
  | .lsrAbs w => ⟨.LSR, 0x4E#8, .absolute w⟩
  | .lsrZpX z => ⟨.LSR, 0x56#8, .zeroPageX z⟩
  | .lsrAbsX w => ⟨.LSR, 0x5E#8, .absoluteX w⟩
  | .rolZp z => ⟨.ROL, 0x26#8, .zeroPage z⟩
  | .rolAcc => ⟨.ROL, 0x2A#8, .accumulator⟩
  | .rolAbs w => ⟨.ROL, 0x2E#8, .absolute w⟩
  | .rolZpX z => ⟨.ROL, 0x36#8, .zeroPageX z⟩
  | .rolAbsX w => ⟨.ROL, 0x3E#8, .absoluteX w⟩
  | .rorZp z => ⟨.ROR, 0x66#8, .zeroPage z⟩
  | .rorAcc => ⟨.ROR, 0x6A#8, .accumulator⟩
  | .rorAbs w => ⟨.ROR, 0x6E#8, .absolute w⟩
  | .rorZpX z => ⟨.ROR, 0x76#8, .zeroPageX z⟩
  | .rorAbsX w => ⟨.ROR, 0x7E#8, .absoluteX w⟩
  | .incZp z => ⟨.INC, 0xE6#8, .zeroPage z⟩
  | .incAbs w => ⟨.INC, 0xEE#8, .absolute w⟩
  | .incZpX z => ⟨.INC, 0xF6#8, .zeroPageX z⟩
  | .incAbsX w => ⟨.INC, 0xFE#8, .absoluteX w⟩
  | .decZp z => ⟨.DEC, 0xC6#8, .zeroPage z⟩
  | .decAbs w => ⟨.DEC, 0xCE#8, .absolute w⟩
  | .decZpX z => ⟨.DEC, 0xD6#8, .zeroPageX z⟩
  | .decAbsX w => ⟨.DEC, 0xDE#8, .absoluteX w⟩
  | .inx => ⟨.INX, 0xE8#8, .implied⟩
  | .iny => ⟨.INY, 0xC8#8, .implied⟩
  | .dex => ⟨.DEX, 0xCA#8, .implied⟩
  | .dey => ⟨.DEY, 0x88#8, .implied⟩
  | .jmpAbs w => ⟨.JMP, 0x4C#8, .absolute w⟩
  | .jmpInd w => ⟨.JMP, 0x6C#8, .absoluteIndirect w⟩
  | .jsr w => ⟨.JSR, 0x20#8, .absolute w⟩
  | .rts => ⟨.RTS, 0x60#8, .implied⟩
  | .bcc r => ⟨.BCC, 0x90#8, .relative r⟩
  | .bcs r => ⟨.BCS, 0xB0#8, .relative r⟩
  | .beq r => ⟨.BEQ, 0xF0#8, .relative r⟩
  | .bmi r => ⟨.BMI, 0x30#8, .relative r⟩
  | .bne r => ⟨.BNE, 0xD0#8, .relative r⟩
  | .bpl r => ⟨.BPL, 0x10#8, .relative r⟩
  | .bvc r => ⟨.BVC, 0x50#8, .relative r⟩
  | .bvs r => ⟨.BVS, 0x70#8, .relative r⟩
  | .pha => ⟨.PHA, 0x48#8, .implied⟩
  | .php => ⟨.PHP, 0x08#8, .implied⟩
  | .pla => ⟨.PLA, 0x68#8, .implied⟩
  | .plp => ⟨.PLP, 0x28#8, .implied⟩
  | .clc => ⟨.CLC, 0x18#8, .implied⟩
  | .cld => ⟨.CLD, 0xD8#8, .implied⟩
  | .cli => ⟨.CLI, 0x58#8, .implied⟩
  | .clv => ⟨.CLV, 0xB8#8, .implied⟩
  | .sec => ⟨.SEC, 0x38#8, .implied⟩
  | .sed => ⟨.SED, 0xF8#8, .implied⟩
  | .sei => ⟨.SEI, 0x78#8, .implied⟩
  | .nop => ⟨.NOP, 0xEA#8, .implied⟩
  | .brk => ⟨.BRK, 0x00#8, .implied⟩
  | .rti => ⟨.RTI, 0x40#8, .implied⟩
  | .unimplemented op => ⟨.UNIMPLEMENTED, op, .implied⟩

/-- The mnemonic of an instruction (R86). -/
def Instr.mnemonic (i : Instr) : Mnemonic := (rowOf i).mnemonic

/-- The opcode byte of an instruction (R87). -/
def Instr.opcode (i : Instr) : Byte := (rowOf i).opcode

/-- The addressing mode of an instruction, with its operand (R87). An empty slot has no operand
bytes (R80). -/
def Instr.operand (i : Instr) : Operand := (rowOf i).operand

/-- The bytes that follow the opcode (R81, R83): a word's low byte first. -/
def operandBytes (o : Operand) : List Byte :=
  match o with
  | .implied => []
  | .accumulator => []
  | .immediate i => [i]
  | .zeroPage z => [z]
  | .zeroPageX z => [z]
  | .zeroPageY z => [z]
  | .absolute w => [lo w, hi w]
  | .absoluteX w => [lo w, hi w]
  | .absoluteY w => [lo w, hi w]
  | .absoluteIndirect w => [lo w, hi w]
  | .indirectX z => [z]
  | .indirectY z => [z]
  | .relative r => [r]

/-- The operand width of a mode in bytes (40_addressing.md R100). -/
def operandWidth (o : Operand) : Nat :=
  match o with
  | .implied => 0
  | .accumulator => 0
  | .immediate _ => 1
  | .zeroPage _ => 1
  | .zeroPageX _ => 1
  | .zeroPageY _ => 1
  | .absolute _ => 2
  | .absoluteX _ => 2
  | .absoluteY _ => 2
  | .absoluteIndirect _ => 2
  | .indirectX _ => 1
  | .indirectY _ => 1
  | .relative _ => 1

/-- The length of an instruction in bytes: 1 + operand width (R82). -/
def Instr.length (i : Instr) : Nat := 1 + operandWidth i.operand

/-- Why a list of bytes is no instruction: the decoder's rejections, by name. Every opcode byte is
an instruction (R90), so bytes are rejected only where some are missing. -/
inductive DecodeError where
  /-- there is no byte at all -/
  | noBytes
  /-- the operand bytes of opcode `op` are not all there -/
  | operandMissing (op : Byte)
  deriving DecidableEq, Repr

/-- What the decoder answers: an instruction and the bytes after it, or a rejection. -/
inductive Decoded where
  | ok (i : Instr) (rest : List Byte)
  | reject (why : DecodeError)
  deriving DecidableEq, Repr

/-- Decode the instruction at the head of a list of bytes (R80, R82, R90). -/
def decode (bytes : List Byte) : Decoded :=
  match bytes with
  | [] => .reject .noBytes
  | op :: rest =>
    let i := decodeBytes op (rest.getD 0 0#8) (rest.getD 1 0#8)
    if rest.length < operandWidth i.operand then .reject (.operandMissing op)
    else .ok i (rest.drop (operandWidth i.operand))

/-- The bytes of an instruction (R81): the opcode byte, then its operand bytes. -/
def encode (i : Instr) : List Byte := i.opcode :: operandBytes i.operand

/-- The bytes of the longest instruction, three, that hold the low `nbits` bits of `w`, the first
byte the lowest; every bit above `nbits` is 0. -/
def tableBytes (nbits w : Nat) : List Byte :=
  let v := w % 2 ^ nbits
  [BitVec.ofNat 8 v, BitVec.ofNat 8 (v / 256), BitVec.ofNat 8 (v / 65536)]

/-- The instruction the decoder reads from the bits of an opcode-table row. -/
def decodeTableWord (nbits w : Nat) : Option Instr :=
  match decode (tableBytes nbits w) with
  | .ok i _ => some i
  | .reject _ => none

end Sys2Proof
end

