-- ==== Sys2Proof/Machine/Timing.lean ====
section
/-! DEFINITION. The parameters CYCLE_WIDTH and BASE_CYCLES (00_scope.md R7; 92_eei_decisions.md D1,
D9) and the cycle costs: the base cycle table (30_encoding.md R87), the page-crossing penalty
(41_dispatch.md R123), the empty-slot charge (R124) and the entry costs of irq() and nmi()
(60_exceptions.md R300, R302). They change CYC and nothing else (70_reset_and_hazards.md R347). -/

namespace Sys2Proof.Machine

/-- The type of the parameter BASE_CYCLES: the base cycle cost of each opcode (R87, D9). -/
abbrev CostTable := Byte → Nat

/-- The type of the parameter CYCLE_WIDTH, the width of CYC (D1): unbounded, or a counter of `n` bits
that wraps. -/
inductive CycleWidth where
  | unbounded
  | bits (n : Nat)
  deriving DecidableEq, Repr

/-- The parameters the spec leaves open (R7). Everything that charges CYC takes them as an
argument. -/
structure Params where
  costs      : CostTable
  cycleWidth : CycleWidth

/-- The value a counter of width `w` shows for a count `k` (D1). -/
def wrapCycles (w : CycleWidth) (k : Nat) : Nat :=
  match w with
  | .unbounded => k
  | .bits n => k % 2 ^ n

/-- CYC gains `k` cycles, in the counter's width (10_state.md R30). -/
def State.charge (s : State) (params : Params) (k : Nat) : State :=
  { s with cyc := wrapCycles params.cycleWidth (s.cyc + k) }

/-- BASE_CYCLES of R87, a row of sixteen opcode bytes a line. An empty slot has no base cost; its
entry, 0, is not used. -/
def baseCycleTable : List Nat :=
  [7, 6, 0, 0, 0, 3, 5, 0, 3, 2, 2, 0, 0, 4, 6, 0] ++  -- 0x
  [2, 5, 0, 0, 0, 4, 6, 0, 2, 4, 0, 0, 0, 4, 7, 0] ++  -- 1x
  [6, 6, 0, 0, 3, 3, 5, 0, 4, 2, 2, 0, 4, 4, 6, 0] ++  -- 2x
  [2, 5, 0, 0, 0, 4, 6, 0, 2, 4, 0, 0, 0, 4, 7, 0] ++  -- 3x
  [6, 6, 0, 0, 0, 3, 5, 0, 3, 2, 2, 0, 3, 4, 6, 0] ++  -- 4x
  [2, 5, 0, 0, 0, 4, 6, 0, 2, 4, 0, 0, 0, 4, 7, 0] ++  -- 5x
  [6, 6, 0, 0, 0, 3, 5, 0, 4, 4, 2, 0, 5, 4, 6, 0] ++  -- 6x
  [2, 5, 0, 0, 0, 4, 6, 0, 2, 4, 0, 0, 0, 4, 7, 0] ++  -- 7x
  [0, 6, 0, 0, 3, 3, 3, 0, 2, 0, 2, 0, 4, 4, 4, 0] ++  -- 8x
  [2, 6, 0, 0, 4, 4, 4, 0, 2, 5, 2, 0, 0, 5, 0, 0] ++  -- 9x
  [2, 6, 2, 0, 3, 3, 3, 0, 2, 2, 2, 0, 4, 4, 4, 0] ++  -- Ax
  [2, 5, 0, 0, 4, 4, 4, 0, 2, 4, 2, 0, 4, 4, 4, 0] ++  -- Bx
  [2, 6, 0, 0, 3, 3, 5, 0, 2, 2, 2, 0, 4, 4, 6, 0] ++  -- Cx
  [2, 5, 0, 0, 0, 4, 6, 0, 2, 4, 0, 0, 0, 4, 7, 0] ++  -- Dx
  [2, 6, 0, 0, 3, 3, 5, 0, 2, 2, 2, 0, 4, 4, 6, 0] ++  -- Ex
  [2, 5, 0, 0, 0, 4, 6, 0, 2, 4, 0, 0, 0, 4, 7, 0]  -- Fx

/-- The default of BASE_CYCLES (R87; 92_eei_decisions.md D9, log entry 2). -/
def baseCycles : CostTable := fun op => baseCycleTable.getD op.toNat 0

/-- The defaults of the parameters: R87's table and an unbounded CYC (log entries 1 and 2). -/
def defaultParams : Params where
  costs      := baseCycles
  cycleWidth := .unbounded

/-- Does the mnemonic pay a cycle on a page crossing (R123)? The read instructions do. Stores and
read-modify-write instructions never pay; a branch has its own rule (45_control.md R230). -/
def paysPageCross (m : Mnemonic) : Bool :=
  match m with
  | .LDA => true
  | .LDX => true
  | .LDY => true
  | .STA => false
  | .STX => false
  | .STY => false
  | .TAX => false
  | .TAY => false
  | .TXA => false
  | .TYA => false
  | .TSX => false
  | .TXS => false
  | .ADC => true
  | .SBC => true
  | .AND => true
  | .ORA => true
  | .EOR => true
  | .CMP => true
  | .CPX => false
  | .CPY => false
  | .BIT => false
  | .ASL => false
  | .LSR => false
  | .ROL => false
  | .ROR => false
  | .INC => false
  | .DEC => false
  | .INX => false
  | .INY => false
  | .DEX => false
  | .DEY => false
  | .JMP => false
  | .JSR => false
  | .RTS => false
  | .BCC => false
  | .BCS => false
  | .BEQ => false
  | .BMI => false
  | .BNE => false
  | .BPL => false
  | .BVC => false
  | .BVS => false
  | .PHA => false
  | .PHP => false
  | .PLA => false
  | .PLP => false
  | .CLC => false
  | .CLD => false
  | .CLI => false
  | .CLV => false
  | .SEC => false
  | .SED => false
  | .SEI => false
  | .NOP => false
  | .BRK => false
  | .RTI => false
  | .UNIMPLEMENTED => false

/-- `penalty(d, crossed)` (R123). -/
def pagePenalty (m : Mnemonic) (crossed : Bool) : Nat := bit (paysPageCross m && crossed)

/-- The charge of an unimplemented opcode (R124). -/
def unimplementedCycles : Nat := 2

/-- The entry cost of irq() (R300). -/
def irqCycles : Nat := 7

/-- The entry cost of nmi() (R302; 90_conflicts.md C10). -/
def nmiCycles : Nat := 8

end Sys2Proof.Machine
end

