-- ==== Sys2Proof/Machine/Operands.lean ====
section
/-! DEFINITION. The addressing-mode resolver (40_addressing.md R100 to R112), operand access
(R111), and one instruction around its effect (41_dispatch.md R121, R122). -/

namespace Sys2Proof.Machine

open Sys2Proof

/-- The resolver's result `(ea, crossed)` (10_state.md R35); not state. -/
structure Resolved where
  ea      : Word
  crossed : Bool
  deriving DecidableEq, Repr

/-- A base address indexed by a register, and whether its high byte changed (R105, R107). -/
def indexed (base : Word) (index : Byte) : Resolved :=
  let ea := base + zext16 index
  ⟨ea, hi base != hi ea⟩

/-- The resolver (R101 to R110): `p` is the address of the byte after the opcode, and the operand
holds the bytes read from there. It reads X, Y and memory and changes nothing; PC's advance is
`operandWidth`. -/
def resolve (o : Operand) (p : Word) (s : State) : Resolved :=
  match o with
  | .implied => ⟨0x0000#16, false⟩
  | .accumulator => ⟨0x0000#16, false⟩
  | .immediate _ => ⟨p, false⟩
  | .zeroPage z => ⟨zext16 z, false⟩
  | .zeroPageX z => ⟨zext16 (z + s.x), false⟩
  | .zeroPageY z => ⟨zext16 (z + s.y), false⟩
  | .absolute w => ⟨w, false⟩
  | .absoluteX w => indexed w s.x
  | .absoluteY w => indexed w s.y
  | .absoluteIndirect w =>
    ⟨word (s.readByte (word (hi w) (lo w + 1#8))) (s.readByte w), false⟩
  | .indirectX z => ⟨s.readZP16 (z + s.x), false⟩
  | .indirectY z => indexed (s.readZP16 z) s.y
  | .relative r =>
    let next := p + 1#16
    let ea := next + sext16 r
    ⟨ea, hi ea != hi next⟩

/-- What the resolver answers for an instruction at `s.pc`. -/
def resolvedOf (i : Instr) (s : State) : Resolved := resolve i.operand (s.pc + 1#16) s

/-- The address of the instruction after `i` at `s.pc` (10_state.md R31). -/
def nextPC (i : Instr) (s : State) : Word := s.pc + BitVec.ofNat 16 i.length

/-- `load()` (R111): A in ACCUMULATOR mode, the operand byte itself in IMMEDIATE mode (it is the byte
at `ea`, read before the effect writes anything, 20_memory.md R73; log entry 3), else the byte at
`ea`. No IMPLIED effect calls it (R110). -/
def loadOperand (o : Operand) (ea : Word) (s : State) : Byte :=
  match o with
  | .accumulator => s.a
  | .immediate i => i
  | _ => s.readByte ea

/-- `store(v)` (R111): A in ACCUMULATOR mode, else the byte at `ea`. -/
def storeOperand (o : Operand) (ea : Word) (v : Byte) (s : State) : State :=
  match o with
  | .accumulator => { s with a := v }
  | _ => s.writeByte ea v

/-- The operand byte of an instruction at `s.pc`. -/
def operandByte (i : Instr) (s : State) : Byte := loadOperand i.operand (resolvedOf i s).ea s

/-- One instruction around its effect (R121, R122): PC moves past the instruction, the effect runs
on that state and returns its extra cycles, and CYC gains base, extra and penalty. -/
def perform (params : Params) (i : Instr) (effect : Resolved → State → State × Nat)
    (s : State) : StepResult :=
  let r := resolvedOf i s
  let done := effect r { s with pc := nextPC i s }
  .next (done.1.charge params
    (params.costs i.opcode + done.2 + pagePenalty i.mnemonic r.crossed))

/-- An instruction whose effect returns no extra cycles (00_scope.md R14). -/
def performPlain (params : Params) (i : Instr) (effect : Resolved → State → State)
    (s : State) : StepResult :=
  perform params i (fun r t => (effect r t, 0)) s

/-- An instruction that reads its operand byte `M = load()` and goes on with it (R111). -/
def performRead (params : Params) (i : Instr) (effect : Byte → State → State)
    (s : State) : StepResult :=
  performPlain params i (fun r t => effect (loadOperand i.operand r.ea t) t) s

/-- An IMPLIED instruction: it reads no operand (R110). -/
def performImplied (params : Params) (i : Instr) (effect : State → State)
    (s : State) : StepResult :=
  performPlain params i (fun _ t => effect t) s

end Sys2Proof.Machine
end

