-- ==== Sys2Proof/Machine/ArithLogic.lean ====
section
/-! DEFINITION. Arithmetic, logic, compare and bit test (43_arith_logic.md R170 to R185): one shared
operation per mnemonic, then the meaning of each opcode. -/

namespace Sys2Proof.Machine

open Sys2Proof

/-- ADC: `adc(load())`, binary whatever SR.D holds (R170, R175). -/
def runAdc (params : Params) (i : Instr) (s : State) : StepResult :=
  performRead params i (fun m t => t.adc m) s

/-- SBC: `sbc(load())`, binary whatever SR.D holds (R170, R176). -/
def runSbc (params : Params) (i : Instr) (s : State) : StepResult :=
  performRead params i (fun m t => t.sbc m) s

/-- AND: `A <- A & load(); setZN(A)` (R177). -/
def runAnd (params : Params) (i : Instr) (s : State) : StepResult :=
  performRead params i (fun m t => ({ t with a := t.a &&& m }).setZN (t.a &&& m)) s

/-- ORA: `A <- A | load(); setZN(A)` (R178). -/
def runOra (params : Params) (i : Instr) (s : State) : StepResult :=
  performRead params i (fun m t => ({ t with a := t.a ||| m }).setZN (t.a ||| m)) s

/-- EOR: `A <- A ^ load(); setZN(A)` (R179). -/
def runEor (params : Params) (i : Instr) (s : State) : StepResult :=
  performRead params i (fun m t => ({ t with a := t.a ^^^ m }).setZN (t.a ^^^ m)) s

/-- CMP: `compare(A, load())` (R180). -/
def runCmp (params : Params) (i : Instr) (s : State) : StepResult :=
  performRead params i (fun m t => t.compare t.a m) s

/-- CPX: `compare(X, load())` (R181). -/
def runCpx (params : Params) (i : Instr) (s : State) : StepResult :=
  performRead params i (fun m t => t.compare t.x m) s

/-- CPY: `compare(Y, load())` (R182). -/
def runCpy (params : Params) (i : Instr) (s : State) : StepResult :=
  performRead params i (fun m t => t.compare t.y m) s

/-- BIT: `bitTest(load())` (R183). -/
def runBit (params : Params) (i : Instr) (s : State) : StepResult :=
  performRead params i (fun m t => t.bitTest m) s

/-- R175: `ADC (z,X)`, opcode 0x61. -/
def execAdcIndX (z : Byte) (s : State) : StepResult :=
  runAdc defaultParams (.adcIndX z) s

/-- R175: `ADC z`, opcode 0x65. -/
def execAdcZp (z : Byte) (s : State) : StepResult :=
  runAdc defaultParams (.adcZp z) s

/-- R175: `ADC #i`, opcode 0x69. -/
def execAdcImm (i : Byte) (s : State) : StepResult :=
  runAdc defaultParams (.adcImm i) s

/-- R175: `ADC w`, opcode 0x6D. -/
def execAdcAbs (w : Word) (s : State) : StepResult :=
  runAdc defaultParams (.adcAbs w) s

/-- R175: `ADC (z),Y`, opcode 0x71. -/
def execAdcIndY (z : Byte) (s : State) : StepResult :=
  runAdc defaultParams (.adcIndY z) s

/-- R175: `ADC z,X`, opcode 0x75. -/
def execAdcZpX (z : Byte) (s : State) : StepResult :=
  runAdc defaultParams (.adcZpX z) s

/-- R175: `ADC w,Y`, opcode 0x79. -/
def execAdcAbsY (w : Word) (s : State) : StepResult :=
  runAdc defaultParams (.adcAbsY w) s

/-- R175: `ADC w,X`, opcode 0x7D. -/
def execAdcAbsX (w : Word) (s : State) : StepResult :=
  runAdc defaultParams (.adcAbsX w) s

/-- R176: `SBC (z,X)`, opcode 0xE1. -/
def execSbcIndX (z : Byte) (s : State) : StepResult :=
  runSbc defaultParams (.sbcIndX z) s

/-- R176: `SBC z`, opcode 0xE5. -/
def execSbcZp (z : Byte) (s : State) : StepResult :=
  runSbc defaultParams (.sbcZp z) s

/-- R176: `SBC #i`, opcode 0xE9. -/
def execSbcImm (i : Byte) (s : State) : StepResult :=
  runSbc defaultParams (.sbcImm i) s

/-- R176: `SBC w`, opcode 0xED. -/
def execSbcAbs (w : Word) (s : State) : StepResult :=
  runSbc defaultParams (.sbcAbs w) s

/-- R176: `SBC (z),Y`, opcode 0xF1. -/
def execSbcIndY (z : Byte) (s : State) : StepResult :=
  runSbc defaultParams (.sbcIndY z) s

/-- R176: `SBC z,X`, opcode 0xF5. -/
def execSbcZpX (z : Byte) (s : State) : StepResult :=
  runSbc defaultParams (.sbcZpX z) s

/-- R176: `SBC w,Y`, opcode 0xF9. -/
def execSbcAbsY (w : Word) (s : State) : StepResult :=
  runSbc defaultParams (.sbcAbsY w) s

/-- R176: `SBC w,X`, opcode 0xFD. -/
def execSbcAbsX (w : Word) (s : State) : StepResult :=
  runSbc defaultParams (.sbcAbsX w) s

/-- R177: `AND (z,X)`, opcode 0x21. -/
def execAndIndX (z : Byte) (s : State) : StepResult :=
  runAnd defaultParams (.andIndX z) s

/-- R177: `AND z`, opcode 0x25. -/
def execAndZp (z : Byte) (s : State) : StepResult :=
  runAnd defaultParams (.andZp z) s

/-- R177: `AND #i`, opcode 0x29. -/
def execAndImm (i : Byte) (s : State) : StepResult :=
  runAnd defaultParams (.andImm i) s

/-- R177: `AND w`, opcode 0x2D. -/
def execAndAbs (w : Word) (s : State) : StepResult :=
  runAnd defaultParams (.andAbs w) s

/-- R177: `AND (z),Y`, opcode 0x31. -/
def execAndIndY (z : Byte) (s : State) : StepResult :=
  runAnd defaultParams (.andIndY z) s

/-- R177: `AND z,X`, opcode 0x35. -/
def execAndZpX (z : Byte) (s : State) : StepResult :=
  runAnd defaultParams (.andZpX z) s

/-- R177: `AND w,Y`, opcode 0x39. -/
def execAndAbsY (w : Word) (s : State) : StepResult :=
  runAnd defaultParams (.andAbsY w) s

/-- R177: `AND w,X`, opcode 0x3D. -/
def execAndAbsX (w : Word) (s : State) : StepResult :=
  runAnd defaultParams (.andAbsX w) s

/-- R178: `ORA (z,X)`, opcode 0x01. -/
def execOraIndX (z : Byte) (s : State) : StepResult :=
  runOra defaultParams (.oraIndX z) s

/-- R178: `ORA z`, opcode 0x05. -/
def execOraZp (z : Byte) (s : State) : StepResult :=
  runOra defaultParams (.oraZp z) s

/-- R178: `ORA #i`, opcode 0x09. -/
def execOraImm (i : Byte) (s : State) : StepResult :=
  runOra defaultParams (.oraImm i) s

/-- R178: `ORA w`, opcode 0x0D. -/
def execOraAbs (w : Word) (s : State) : StepResult :=
  runOra defaultParams (.oraAbs w) s

/-- R178: `ORA (z),Y`, opcode 0x11. -/
def execOraIndY (z : Byte) (s : State) : StepResult :=
  runOra defaultParams (.oraIndY z) s

/-- R178: `ORA z,X`, opcode 0x15. -/
def execOraZpX (z : Byte) (s : State) : StepResult :=
  runOra defaultParams (.oraZpX z) s

/-- R178: `ORA w,Y`, opcode 0x19. -/
def execOraAbsY (w : Word) (s : State) : StepResult :=
  runOra defaultParams (.oraAbsY w) s

/-- R178: `ORA w,X`, opcode 0x1D. -/
def execOraAbsX (w : Word) (s : State) : StepResult :=
  runOra defaultParams (.oraAbsX w) s

/-- R179: `EOR (z,X)`, opcode 0x41. -/
def execEorIndX (z : Byte) (s : State) : StepResult :=
  runEor defaultParams (.eorIndX z) s

/-- R179: `EOR z`, opcode 0x45. -/
def execEorZp (z : Byte) (s : State) : StepResult :=
  runEor defaultParams (.eorZp z) s

/-- R179: `EOR #i`, opcode 0x49. -/
def execEorImm (i : Byte) (s : State) : StepResult :=
  runEor defaultParams (.eorImm i) s

/-- R179: `EOR w`, opcode 0x4D. -/
def execEorAbs (w : Word) (s : State) : StepResult :=
  runEor defaultParams (.eorAbs w) s

/-- R179: `EOR (z),Y`, opcode 0x51. -/
def execEorIndY (z : Byte) (s : State) : StepResult :=
  runEor defaultParams (.eorIndY z) s

/-- R179: `EOR z,X`, opcode 0x55. -/
def execEorZpX (z : Byte) (s : State) : StepResult :=
  runEor defaultParams (.eorZpX z) s

/-- R179: `EOR w,Y`, opcode 0x59. -/
def execEorAbsY (w : Word) (s : State) : StepResult :=
  runEor defaultParams (.eorAbsY w) s

/-- R179: `EOR w,X`, opcode 0x5D. -/
def execEorAbsX (w : Word) (s : State) : StepResult :=
  runEor defaultParams (.eorAbsX w) s

/-- R180: `CMP (z,X)`, opcode 0xC1. -/
def execCmpIndX (z : Byte) (s : State) : StepResult :=
  runCmp defaultParams (.cmpIndX z) s

/-- R180: `CMP z`, opcode 0xC5. -/
def execCmpZp (z : Byte) (s : State) : StepResult :=
  runCmp defaultParams (.cmpZp z) s

/-- R180: `CMP #i`, opcode 0xC9. -/
def execCmpImm (i : Byte) (s : State) : StepResult :=
  runCmp defaultParams (.cmpImm i) s

/-- R180: `CMP w`, opcode 0xCD. -/
def execCmpAbs (w : Word) (s : State) : StepResult :=
  runCmp defaultParams (.cmpAbs w) s

/-- R180: `CMP (z),Y`, opcode 0xD1. -/
def execCmpIndY (z : Byte) (s : State) : StepResult :=
  runCmp defaultParams (.cmpIndY z) s

/-- R180: `CMP z,X`, opcode 0xD5. -/
def execCmpZpX (z : Byte) (s : State) : StepResult :=
  runCmp defaultParams (.cmpZpX z) s

/-- R180: `CMP w,Y`, opcode 0xD9. -/
def execCmpAbsY (w : Word) (s : State) : StepResult :=
  runCmp defaultParams (.cmpAbsY w) s

/-- R180: `CMP w,X`, opcode 0xDD. -/
def execCmpAbsX (w : Word) (s : State) : StepResult :=
  runCmp defaultParams (.cmpAbsX w) s

/-- R181: `CPX #i`, opcode 0xE0. -/
def execCpxImm (i : Byte) (s : State) : StepResult :=
  runCpx defaultParams (.cpxImm i) s

/-- R181: `CPX z`, opcode 0xE4. -/
def execCpxZp (z : Byte) (s : State) : StepResult :=
  runCpx defaultParams (.cpxZp z) s

/-- R181: `CPX w`, opcode 0xEC. -/
def execCpxAbs (w : Word) (s : State) : StepResult :=
  runCpx defaultParams (.cpxAbs w) s

/-- R182: `CPY #i`, opcode 0xC0. -/
def execCpyImm (i : Byte) (s : State) : StepResult :=
  runCpy defaultParams (.cpyImm i) s

/-- R182: `CPY z`, opcode 0xC4. -/
def execCpyZp (z : Byte) (s : State) : StepResult :=
  runCpy defaultParams (.cpyZp z) s

/-- R182: `CPY w`, opcode 0xCC. -/
def execCpyAbs (w : Word) (s : State) : StepResult :=
  runCpy defaultParams (.cpyAbs w) s

/-- R183: `BIT z`, opcode 0x24. -/
def execBitZp (z : Byte) (s : State) : StepResult :=
  runBit defaultParams (.bitZp z) s

/-- R183: `BIT w`, opcode 0x2C. -/
def execBitAbs (w : Word) (s : State) : StepResult :=
  runBit defaultParams (.bitAbs w) s

end Sys2Proof.Machine
end

