-- ==== Sys2Proof/Machine/Control.lean ====
section
/-! DEFINITION. Jumps, subroutines and branches (45_control.md R230 to R242): one shared operation per
mnemonic, then the meaning of each opcode. -/

namespace Sys2Proof.Machine

open Sys2Proof

/-- A conditional branch (R230): when the condition holds PC becomes the target and one extra cycle
is charged, two when the target is on another page than the next instruction. No flag is written. -/
def runBranch (params : Params) (taken : State → Bool) (i : Instr) (s : State) : StepResult :=
  perform params i
    (fun r t => if taken t then ({ t with pc := r.ea }, 1 + bit r.crossed) else (t, 0)) s

/-- JMP: `PC <- ea` (R231). -/
def runJmp (params : Params) (i : Instr) (s : State) : StepResult :=
  performPlain params i (fun r t => { t with pc := r.ea }) s

/-- JSR: `push16(PC -16 1); PC <- ea`, PC being the address after the instruction (R232). -/
def runJsr (params : Params) (i : Instr) (s : State) : StepResult :=
  performPlain params i (fun r t => { t.push16 (t.pc - 1#16) with pc := r.ea }) s

/-- RTS: `PC <- pop16() +16 1` (R233). -/
def runRts (params : Params) (i : Instr) (s : State) : StepResult :=
  performImplied params i (fun t => { t.popped.popped with pc := t.popWord + 1#16 }) s

/-- BCC: taken when SR.C = 0 (R234). -/
def runBcc (params : Params) (i : Instr) (s : State) : StepResult :=
  runBranch params (fun t => !t.flag .C) i s

/-- BCS: taken when SR.C = 1 (R235). -/
def runBcs (params : Params) (i : Instr) (s : State) : StepResult :=
  runBranch params (fun t => t.flag .C) i s

/-- BEQ: taken when SR.Z = 1 (R236). -/
def runBeq (params : Params) (i : Instr) (s : State) : StepResult :=
  runBranch params (fun t => t.flag .Z) i s

/-- BMI: taken when SR.N = 1 (R237). -/
def runBmi (params : Params) (i : Instr) (s : State) : StepResult :=
  runBranch params (fun t => t.flag .N) i s

/-- BNE: taken when SR.Z = 0 (R238). -/
def runBne (params : Params) (i : Instr) (s : State) : StepResult :=
  runBranch params (fun t => !t.flag .Z) i s

/-- BPL: taken when SR.N = 0 (R239). -/
def runBpl (params : Params) (i : Instr) (s : State) : StepResult :=
  runBranch params (fun t => !t.flag .N) i s

/-- BVC: taken when SR.V = 0 (R240). -/
def runBvc (params : Params) (i : Instr) (s : State) : StepResult :=
  runBranch params (fun t => !t.flag .V) i s

/-- BVS: taken when SR.V = 1 (R241). -/
def runBvs (params : Params) (i : Instr) (s : State) : StepResult :=
  runBranch params (fun t => t.flag .V) i s

/-- R231: `JMP w`, opcode 0x4C. -/
def execJmpAbs (w : Word) (s : State) : StepResult :=
  runJmp defaultParams (.jmpAbs w) s

/-- R231: `JMP (w)`, opcode 0x6C. -/
def execJmpInd (w : Word) (s : State) : StepResult :=
  runJmp defaultParams (.jmpInd w) s

/-- R232: `JSR w`, opcode 0x20. -/
def execJsr (w : Word) (s : State) : StepResult :=
  runJsr defaultParams (.jsr w) s

/-- R233: `RTS`, opcode 0x60. -/
def execRts (s : State) : StepResult :=
  runRts defaultParams .rts s

/-- R234: `BCC r`, opcode 0x90. -/
def execBcc (r : Byte) (s : State) : StepResult :=
  runBcc defaultParams (.bcc r) s

/-- R235: `BCS r`, opcode 0xB0. -/
def execBcs (r : Byte) (s : State) : StepResult :=
  runBcs defaultParams (.bcs r) s

/-- R236: `BEQ r`, opcode 0xF0. -/
def execBeq (r : Byte) (s : State) : StepResult :=
  runBeq defaultParams (.beq r) s

/-- R237: `BMI r`, opcode 0x30. -/
def execBmi (r : Byte) (s : State) : StepResult :=
  runBmi defaultParams (.bmi r) s

/-- R238: `BNE r`, opcode 0xD0. -/
def execBne (r : Byte) (s : State) : StepResult :=
  runBne defaultParams (.bne r) s

/-- R239: `BPL r`, opcode 0x10. -/
def execBpl (r : Byte) (s : State) : StepResult :=
  runBpl defaultParams (.bpl r) s

/-- R240: `BVC r`, opcode 0x50. -/
def execBvc (r : Byte) (s : State) : StepResult :=
  runBvc defaultParams (.bvc r) s

/-- R241: `BVS r`, opcode 0x70. -/
def execBvs (r : Byte) (s : State) : StepResult :=
  runBvs defaultParams (.bvs r) s

end Sys2Proof.Machine
end

