-- ==== Sys2Proof/Machine/EmptySlot.lean ====
section
/-! DEFINITION. The empty slots: the unimplemented-opcode event (41_dispatch.md R124). -/

namespace Sys2Proof.Machine

/-- R124: PC past the opcode, a record in DIAG, two cycles, and nothing else. -/
def runUnimplemented (params : Params) (op : Byte) (s : State) : StepResult :=
  .next (State.charge { s with pc := s.pc + 1#16, diag := s.diag ++ [⟨op, s.pc⟩] } params
    unimplementedCycles)

/-- R124: an opcode byte of R88, at the default parameters. -/
def execUnimplemented (op : Byte) (s : State) : StepResult :=
  runUnimplemented defaultParams op s

end Sys2Proof.Machine
end

