-- ==== Sys2Proof/Machine/InterruptInstr.lean ====
section
/-! DEFINITION. BRK and RTI (47_interrupt_instr.md R290 to R293) over the shared entry and return of
Sys2Proof/Machine/Ops.lean. -/

namespace Sys2Proof.Machine

open Sys2Proof

/-- BRK: past the signature byte, the interrupt entry with Break set in the pushed status, through the
IRQ/BRK vector (R290, R291). -/
def runBrk (params : Params) (i : Instr) (s : State) : StepResult :=
  performImplied params i (fun t =>
    t.enterInterrupt (t.pc + 1#16) (statusBreakSet t.sr) irqVector) s

/-- RTI: the return from an interrupt (R293). -/
def runRti (params : Params) (i : Instr) (s : State) : StepResult :=
  performImplied params i (fun t => t.returnFromInterrupt) s

/-- R290: `BRK`, opcode 0x00. -/
def execBrk (s : State) : StepResult :=
  runBrk defaultParams .brk s

/-- R293: `RTI`, opcode 0x40. -/
def execRti (s : State) : StepResult :=
  runRti defaultParams .rti s

end Sys2Proof.Machine
end

