-- ==== Sys2Proof/Machine/LoadStore.lean ====
section
/-! DEFINITION. Loads, stores and register transfers (42_load_store_transfer.md R140 to R152): one shared
operation per mnemonic, then the meaning of each opcode. -/

namespace Sys2Proof.Machine

open Sys2Proof

/-- LDA: `A <- load(); setZN(A)` (R141). -/
def runLda (params : Params) (i : Instr) (s : State) : StepResult :=
  performRead params i (fun m t => ({ t with a := m }).setZN m) s

/-- LDX: `X <- load(); setZN(X)` (R142). -/
def runLdx (params : Params) (i : Instr) (s : State) : StepResult :=
  performRead params i (fun m t => ({ t with x := m }).setZN m) s

/-- LDY: `Y <- load(); setZN(Y)` (R143). -/
def runLdy (params : Params) (i : Instr) (s : State) : StepResult :=
  performRead params i (fun m t => ({ t with y := m }).setZN m) s

/-- STA: `MemWrite(ea, 1, A)`; no flag is written (R144). -/
def runSta (params : Params) (i : Instr) (s : State) : StepResult :=
  performPlain params i (fun r t => t.writeByte r.ea t.a) s

/-- STX: `MemWrite(ea, 1, X)` (R145). -/
def runStx (params : Params) (i : Instr) (s : State) : StepResult :=
  performPlain params i (fun r t => t.writeByte r.ea t.x) s

/-- STY: `MemWrite(ea, 1, Y)` (R146). -/
def runSty (params : Params) (i : Instr) (s : State) : StepResult :=
  performPlain params i (fun r t => t.writeByte r.ea t.y) s

/-- TAX: `X <- A; setZN(X)` (R147). -/
def runTax (params : Params) (i : Instr) (s : State) : StepResult :=
  performImplied params i (fun t => ({ t with x := t.a }).setZN t.a) s

/-- TAY: `Y <- A; setZN(Y)` (R148). -/
def runTay (params : Params) (i : Instr) (s : State) : StepResult :=
  performImplied params i (fun t => ({ t with y := t.a }).setZN t.a) s

/-- TXA: `A <- X; setZN(A)` (R149). -/
def runTxa (params : Params) (i : Instr) (s : State) : StepResult :=
  performImplied params i (fun t => ({ t with a := t.x }).setZN t.x) s

/-- TYA: `A <- Y; setZN(A)` (R150). -/
def runTya (params : Params) (i : Instr) (s : State) : StepResult :=
  performImplied params i (fun t => ({ t with a := t.y }).setZN t.y) s

/-- TSX: `X <- SP; setZN(X)` (R151). -/
def runTsx (params : Params) (i : Instr) (s : State) : StepResult :=
  performImplied params i (fun t => ({ t with x := t.sp }).setZN t.sp) s

/-- TXS: `SP <- X`; no flag is written (R152; 90_conflicts.md C3). -/
def runTxs (params : Params) (i : Instr) (s : State) : StepResult :=
  performImplied params i (fun t => { t with sp := t.x }) s

/-- R141: `LDA (z,X)`, opcode 0xA1. -/
def execLdaIndX (z : Byte) (s : State) : StepResult :=
  runLda defaultParams (.ldaIndX z) s

/-- R141: `LDA z`, opcode 0xA5. -/
def execLdaZp (z : Byte) (s : State) : StepResult :=
  runLda defaultParams (.ldaZp z) s

/-- R141: `LDA #i`, opcode 0xA9. -/
def execLdaImm (i : Byte) (s : State) : StepResult :=
  runLda defaultParams (.ldaImm i) s

/-- R141: `LDA w`, opcode 0xAD. -/
def execLdaAbs (w : Word) (s : State) : StepResult :=
  runLda defaultParams (.ldaAbs w) s

/-- R141: `LDA (z),Y`, opcode 0xB1. -/
def execLdaIndY (z : Byte) (s : State) : StepResult :=
  runLda defaultParams (.ldaIndY z) s

/-- R141: `LDA z,X`, opcode 0xB5. -/
def execLdaZpX (z : Byte) (s : State) : StepResult :=
  runLda defaultParams (.ldaZpX z) s

/-- R141: `LDA w,Y`, opcode 0xB9. -/
def execLdaAbsY (w : Word) (s : State) : StepResult :=
  runLda defaultParams (.ldaAbsY w) s

/-- R141: `LDA w,X`, opcode 0xBD. -/
def execLdaAbsX (w : Word) (s : State) : StepResult :=
  runLda defaultParams (.ldaAbsX w) s

/-- R142: `LDX #i`, opcode 0xA2. -/
def execLdxImm (i : Byte) (s : State) : StepResult :=
  runLdx defaultParams (.ldxImm i) s

/-- R142: `LDX z`, opcode 0xA6. -/
def execLdxZp (z : Byte) (s : State) : StepResult :=
  runLdx defaultParams (.ldxZp z) s

/-- R142: `LDX w`, opcode 0xAE. -/
def execLdxAbs (w : Word) (s : State) : StepResult :=
  runLdx defaultParams (.ldxAbs w) s

/-- R142: `LDX z,Y`, opcode 0xB6. -/
def execLdxZpY (z : Byte) (s : State) : StepResult :=
  runLdx defaultParams (.ldxZpY z) s

/-- R142: `LDX w,Y`, opcode 0xBE. -/
def execLdxAbsY (w : Word) (s : State) : StepResult :=
  runLdx defaultParams (.ldxAbsY w) s

/-- R143: `LDY #i`, opcode 0xA0. -/
def execLdyImm (i : Byte) (s : State) : StepResult :=
  runLdy defaultParams (.ldyImm i) s

/-- R143: `LDY z`, opcode 0xA4. -/
def execLdyZp (z : Byte) (s : State) : StepResult :=
  runLdy defaultParams (.ldyZp z) s

/-- R143: `LDY w`, opcode 0xAC. -/
def execLdyAbs (w : Word) (s : State) : StepResult :=
  runLdy defaultParams (.ldyAbs w) s

/-- R143: `LDY z,X`, opcode 0xB4. -/
def execLdyZpX (z : Byte) (s : State) : StepResult :=
  runLdy defaultParams (.ldyZpX z) s

/-- R143: `LDY w,X`, opcode 0xBC. -/
def execLdyAbsX (w : Word) (s : State) : StepResult :=
  runLdy defaultParams (.ldyAbsX w) s

/-- R144: `STA (z,X)`, opcode 0x81. -/
def execStaIndX (z : Byte) (s : State) : StepResult :=
  runSta defaultParams (.staIndX z) s

/-- R144: `STA z`, opcode 0x85. -/
def execStaZp (z : Byte) (s : State) : StepResult :=
  runSta defaultParams (.staZp z) s

/-- R144: `STA w`, opcode 0x8D. -/
def execStaAbs (w : Word) (s : State) : StepResult :=
  runSta defaultParams (.staAbs w) s

/-- R144: `STA (z),Y`, opcode 0x91. -/
def execStaIndY (z : Byte) (s : State) : StepResult :=
  runSta defaultParams (.staIndY z) s

/-- R144: `STA z,X`, opcode 0x95. -/
def execStaZpX (z : Byte) (s : State) : StepResult :=
  runSta defaultParams (.staZpX z) s

/-- R144: `STA w,Y`, opcode 0x99. -/
def execStaAbsY (w : Word) (s : State) : StepResult :=
  runSta defaultParams (.staAbsY w) s

/-- R144: `STA w,X`, opcode 0x9D. -/
def execStaAbsX (w : Word) (s : State) : StepResult :=
  runSta defaultParams (.staAbsX w) s

/-- R145: `STX z`, opcode 0x86. -/
def execStxZp (z : Byte) (s : State) : StepResult :=
  runStx defaultParams (.stxZp z) s

/-- R145: `STX w`, opcode 0x8E. -/
def execStxAbs (w : Word) (s : State) : StepResult :=
  runStx defaultParams (.stxAbs w) s

/-- R145: `STX z,Y`, opcode 0x96. -/
def execStxZpY (z : Byte) (s : State) : StepResult :=
  runStx defaultParams (.stxZpY z) s

/-- R146: `STY z`, opcode 0x84. -/
def execStyZp (z : Byte) (s : State) : StepResult :=
  runSty defaultParams (.styZp z) s

/-- R146: `STY w`, opcode 0x8C. -/
def execStyAbs (w : Word) (s : State) : StepResult :=
  runSty defaultParams (.styAbs w) s

/-- R146: `STY z,X`, opcode 0x94. -/
def execStyZpX (z : Byte) (s : State) : StepResult :=
  runSty defaultParams (.styZpX z) s

/-- R147: `TAX`, opcode 0xAA. -/
def execTax (s : State) : StepResult :=
  runTax defaultParams .tax s

/-- R148: `TAY`, opcode 0xA8. -/
def execTay (s : State) : StepResult :=
  runTay defaultParams .tay s

/-- R149: `TXA`, opcode 0x8A. -/
def execTxa (s : State) : StepResult :=
  runTxa defaultParams .txa s

/-- R150: `TYA`, opcode 0x98. -/
def execTya (s : State) : StepResult :=
  runTya defaultParams .tya s

/-- R151: `TSX`, opcode 0xBA. -/
def execTsx (s : State) : StepResult :=
  runTsx defaultParams .tsx s

/-- R152: `TXS`, opcode 0x9A. -/
def execTxs (s : State) : StepResult :=
  runTxs defaultParams .txs s

end Sys2Proof.Machine
end

