-- ==== Sys2Proof/Machine/ShiftInc.lean ====
section
/-! DEFINITION. Shifts, rotates, increments and decrements (44_shift_incdec.md R200 to R210): one shared
operation per mnemonic, then the meaning of each opcode. -/

namespace Sys2Proof.Machine

open Sys2Proof

/-- A shift or rotate (R200): Carry from the bit shifted out, the result stored where the operand was
read, then Z and N. The operand is read once and written once. -/
def runShift (params : Params) (k : Shift) (i : Instr) (s : State) : StepResult :=
  performPlain params i (fun r t =>
    let m := loadOperand i.operand r.ea t
    let v := shiftResult k m (t.flag .C)
    (storeOperand i.operand r.ea v (t.setFlag .C (shiftCarry k m))).setZN v) s

/-- An increment or decrement of the byte at `ea` (R205, R206): read once, written once, then Z and
N; C is unchanged. -/
def runMemoryUpdate (params : Params) (f : Byte → Byte) (i : Instr) (s : State) : StepResult :=
  performPlain params i (fun r t =>
    let v := f (t.readByte r.ea)
    (t.writeByte r.ea v).setZN v) s

/-- ASL (R201). -/
def runAsl (params : Params) (i : Instr) (s : State) : StepResult :=
  runShift params .asl i s

/-- LSR (R202). -/
def runLsr (params : Params) (i : Instr) (s : State) : StepResult :=
  runShift params .lsr i s

/-- ROL (R203). -/
def runRol (params : Params) (i : Instr) (s : State) : StepResult :=
  runShift params .rol i s

/-- ROR (R204). -/
def runRor (params : Params) (i : Instr) (s : State) : StepResult :=
  runShift params .ror i s

/-- INC: `mem[ea] <- mem[ea] +8 1` (R205). -/
def runInc (params : Params) (i : Instr) (s : State) : StepResult :=
  runMemoryUpdate params (fun m => m + 1#8) i s

/-- DEC: `mem[ea] <- mem[ea] -8 1` (R206). -/
def runDec (params : Params) (i : Instr) (s : State) : StepResult :=
  runMemoryUpdate params (fun m => m - 1#8) i s

/-- INX: `X <- X +8 1; setZN(X)` (R207). -/
def runInx (params : Params) (i : Instr) (s : State) : StepResult :=
  performImplied params i (fun t => ({ t with x := t.x + 1#8 }).setZN (t.x + 1#8)) s

/-- INY: `Y <- Y +8 1; setZN(Y)` (R208). -/
def runIny (params : Params) (i : Instr) (s : State) : StepResult :=
  performImplied params i (fun t => ({ t with y := t.y + 1#8 }).setZN (t.y + 1#8)) s

/-- DEX: `X <- X -8 1; setZN(X)` (R209). -/
def runDex (params : Params) (i : Instr) (s : State) : StepResult :=
  performImplied params i (fun t => ({ t with x := t.x - 1#8 }).setZN (t.x - 1#8)) s

/-- DEY: `Y <- Y -8 1; setZN(Y)` (R210). -/
def runDey (params : Params) (i : Instr) (s : State) : StepResult :=
  performImplied params i (fun t => ({ t with y := t.y - 1#8 }).setZN (t.y - 1#8)) s

/-- R201: `ASL z`, opcode 0x06. -/
def execAslZp (z : Byte) (s : State) : StepResult :=
  runAsl defaultParams (.aslZp z) s

/-- R201: `ASL A`, opcode 0x0A. -/
def execAslAcc (s : State) : StepResult :=
  runAsl defaultParams .aslAcc s

/-- R201: `ASL w`, opcode 0x0E. -/
def execAslAbs (w : Word) (s : State) : StepResult :=
  runAsl defaultParams (.aslAbs w) s

/-- R201: `ASL z,X`, opcode 0x16. -/
def execAslZpX (z : Byte) (s : State) : StepResult :=
  runAsl defaultParams (.aslZpX z) s

/-- R201: `ASL w,X`, opcode 0x1E. -/
def execAslAbsX (w : Word) (s : State) : StepResult :=
  runAsl defaultParams (.aslAbsX w) s

/-- R202: `LSR z`, opcode 0x46. -/
def execLsrZp (z : Byte) (s : State) : StepResult :=
  runLsr defaultParams (.lsrZp z) s

/-- R202: `LSR A`, opcode 0x4A. -/
def execLsrAcc (s : State) : StepResult :=
  runLsr defaultParams .lsrAcc s

/-- R202: `LSR w`, opcode 0x4E. -/
def execLsrAbs (w : Word) (s : State) : StepResult :=
  runLsr defaultParams (.lsrAbs w) s

/-- R202: `LSR z,X`, opcode 0x56. -/
def execLsrZpX (z : Byte) (s : State) : StepResult :=
  runLsr defaultParams (.lsrZpX z) s

/-- R202: `LSR w,X`, opcode 0x5E. -/
def execLsrAbsX (w : Word) (s : State) : StepResult :=
  runLsr defaultParams (.lsrAbsX w) s

/-- R203: `ROL z`, opcode 0x26. -/
def execRolZp (z : Byte) (s : State) : StepResult :=
  runRol defaultParams (.rolZp z) s

/-- R203: `ROL A`, opcode 0x2A. -/
def execRolAcc (s : State) : StepResult :=
  runRol defaultParams .rolAcc s

/-- R203: `ROL w`, opcode 0x2E. -/
def execRolAbs (w : Word) (s : State) : StepResult :=
  runRol defaultParams (.rolAbs w) s

/-- R203: `ROL z,X`, opcode 0x36. -/
def execRolZpX (z : Byte) (s : State) : StepResult :=
  runRol defaultParams (.rolZpX z) s

/-- R203: `ROL w,X`, opcode 0x3E. -/
def execRolAbsX (w : Word) (s : State) : StepResult :=
  runRol defaultParams (.rolAbsX w) s

/-- R204: `ROR z`, opcode 0x66. -/
def execRorZp (z : Byte) (s : State) : StepResult :=
  runRor defaultParams (.rorZp z) s

/-- R204: `ROR A`, opcode 0x6A. -/
def execRorAcc (s : State) : StepResult :=
  runRor defaultParams .rorAcc s

/-- R204: `ROR w`, opcode 0x6E. -/
def execRorAbs (w : Word) (s : State) : StepResult :=
  runRor defaultParams (.rorAbs w) s

/-- R204: `ROR z,X`, opcode 0x76. -/
def execRorZpX (z : Byte) (s : State) : StepResult :=
  runRor defaultParams (.rorZpX z) s

/-- R204: `ROR w,X`, opcode 0x7E. -/
def execRorAbsX (w : Word) (s : State) : StepResult :=
  runRor defaultParams (.rorAbsX w) s

/-- R205: `INC z`, opcode 0xE6. -/
def execIncZp (z : Byte) (s : State) : StepResult :=
  runInc defaultParams (.incZp z) s

/-- R205: `INC w`, opcode 0xEE. -/
def execIncAbs (w : Word) (s : State) : StepResult :=
  runInc defaultParams (.incAbs w) s

/-- R205: `INC z,X`, opcode 0xF6. -/
def execIncZpX (z : Byte) (s : State) : StepResult :=
  runInc defaultParams (.incZpX z) s

/-- R205: `INC w,X`, opcode 0xFE. -/
def execIncAbsX (w : Word) (s : State) : StepResult :=
  runInc defaultParams (.incAbsX w) s

/-- R206: `DEC z`, opcode 0xC6. -/
def execDecZp (z : Byte) (s : State) : StepResult :=
  runDec defaultParams (.decZp z) s

/-- R206: `DEC w`, opcode 0xCE. -/
def execDecAbs (w : Word) (s : State) : StepResult :=
  runDec defaultParams (.decAbs w) s

/-- R206: `DEC z,X`, opcode 0xD6. -/
def execDecZpX (z : Byte) (s : State) : StepResult :=
  runDec defaultParams (.decZpX z) s

/-- R206: `DEC w,X`, opcode 0xDE. -/
def execDecAbsX (w : Word) (s : State) : StepResult :=
  runDec defaultParams (.decAbsX w) s

/-- R207: `INX`, opcode 0xE8. -/
def execInx (s : State) : StepResult :=
  runInx defaultParams .inx s

/-- R208: `INY`, opcode 0xC8. -/
def execIny (s : State) : StepResult :=
  runIny defaultParams .iny s

/-- R209: `DEX`, opcode 0xCA. -/
def execDex (s : State) : StepResult :=
  runDex defaultParams .dex s

/-- R210: `DEY`, opcode 0x88. -/
def execDey (s : State) : StepResult :=
  runDey defaultParams .dey s

end Sys2Proof.Machine
end

