-- ==== Sys2Proof/Machine/StackFlags.lean ====
section
/-! DEFINITION. Stack, flag and no-operation instructions (46_stack_flags_misc.md R260 to R272): one
shared operation per mnemonic, then the meaning of each opcode. -/

namespace Sys2Proof.Machine

open Sys2Proof

/-- PHA: `push8(A)` (R261). -/
def runPha (params : Params) (i : Instr) (s : State) : StepResult :=
  performImplied params i (fun t => t.push8 t.a) s

/-- PHP: `push8(SR | 0x30)` (R262). -/
def runPhp (params : Params) (i : Instr) (s : State) : StepResult :=
  performImplied params i (fun t => t.push8 (statusBreakSet t.sr)) s

/-- PLA: `A <- pop8(); setZN(A)` (R263). -/
def runPla (params : Params) (i : Instr) (s : State) : StepResult :=
  performImplied params i (fun t => ({ t.popped with a := t.popByte }).setZN t.popByte) s

/-- PLP: `SR <- pop8() | 0x20` (R264). -/
def runPlp (params : Params) (i : Instr) (s : State) : StepResult :=
  performImplied params i (fun t => t.popped.writeStatus t.popByte) s

/-- CLC: `SR.C <- 0` (R265). -/
def runClc (params : Params) (i : Instr) (s : State) : StepResult :=
  performImplied params i (fun t => t.setFlag .C false) s

/-- CLD: `SR.D <- 0` (R266). -/
def runCld (params : Params) (i : Instr) (s : State) : StepResult :=
  performImplied params i (fun t => t.setFlag .D false) s

/-- CLI: `SR.I <- 0` (R267). -/
def runCli (params : Params) (i : Instr) (s : State) : StepResult :=
  performImplied params i (fun t => t.setFlag .I false) s

/-- CLV: `SR.V <- 0` (R268). -/
def runClv (params : Params) (i : Instr) (s : State) : StepResult :=
  performImplied params i (fun t => t.setFlag .V false) s

/-- SEC: `SR.C <- 1` (R269). -/
def runSec (params : Params) (i : Instr) (s : State) : StepResult :=
  performImplied params i (fun t => t.setFlag .C true) s

/-- SED: `SR.D <- 1` (R270). -/
def runSed (params : Params) (i : Instr) (s : State) : StepResult :=
  performImplied params i (fun t => t.setFlag .D true) s

/-- SEI: `SR.I <- 1` (R271). -/
def runSei (params : Params) (i : Instr) (s : State) : StepResult :=
  performImplied params i (fun t => t.setFlag .I true) s

/-- NOP: nothing but PC and CYC (R272). -/
def runNop (params : Params) (i : Instr) (s : State) : StepResult :=
  performImplied params i (fun t => t) s

/-- R261: `PHA`, opcode 0x48. -/
def execPha (s : State) : StepResult :=
  runPha defaultParams .pha s

/-- R262: `PHP`, opcode 0x08. -/
def execPhp (s : State) : StepResult :=
  runPhp defaultParams .php s

/-- R263: `PLA`, opcode 0x68. -/
def execPla (s : State) : StepResult :=
  runPla defaultParams .pla s

/-- R264: `PLP`, opcode 0x28. -/
def execPlp (s : State) : StepResult :=
  runPlp defaultParams .plp s

/-- R265: `CLC`, opcode 0x18. -/
def execClc (s : State) : StepResult :=
  runClc defaultParams .clc s

/-- R266: `CLD`, opcode 0xD8. -/
def execCld (s : State) : StepResult :=
  runCld defaultParams .cld s

/-- R267: `CLI`, opcode 0x58. -/
def execCli (s : State) : StepResult :=
  runCli defaultParams .cli s

/-- R268: `CLV`, opcode 0xB8. -/
def execClv (s : State) : StepResult :=
  runClv defaultParams .clv s

/-- R269: `SEC`, opcode 0x38. -/
def execSec (s : State) : StepResult :=
  runSec defaultParams .sec s

/-- R270: `SED`, opcode 0xF8. -/
def execSed (s : State) : StepResult :=
  runSed defaultParams .sed s

/-- R271: `SEI`, opcode 0x78. -/
def execSei (s : State) : StepResult :=
  runSei defaultParams .sei s

/-- R272: `NOP`, opcode 0xEA. -/
def execNop (s : State) : StepResult :=
  runNop defaultParams .nop s

end Sys2Proof.Machine
end

