-- ==== Sys2Proof/Machine/Dispatch.lean ====
section
/-! DEFINITION. The dispatch: one arm per instruction, each one call of that instruction's
meaning. -/

namespace Sys2Proof.Machine

open Sys2Proof

def exec (i : Instr) (s : State) : Host.Outcome State Fault Refusal :=
  match i with
  | .ldaIndX z => Sys2Proof.Machine.execLdaIndX z s
  | .ldaZp z => Sys2Proof.Machine.execLdaZp z s
  | .ldaImm v => Sys2Proof.Machine.execLdaImm v s
  | .ldaAbs w => Sys2Proof.Machine.execLdaAbs w s
  | .ldaIndY z => Sys2Proof.Machine.execLdaIndY z s
  | .ldaZpX z => Sys2Proof.Machine.execLdaZpX z s
  | .ldaAbsY w => Sys2Proof.Machine.execLdaAbsY w s
  | .ldaAbsX w => Sys2Proof.Machine.execLdaAbsX w s
  | .ldxImm v => Sys2Proof.Machine.execLdxImm v s
  | .ldxZp z => Sys2Proof.Machine.execLdxZp z s
  | .ldxAbs w => Sys2Proof.Machine.execLdxAbs w s
  | .ldxZpY z => Sys2Proof.Machine.execLdxZpY z s
  | .ldxAbsY w => Sys2Proof.Machine.execLdxAbsY w s
  | .ldyImm v => Sys2Proof.Machine.execLdyImm v s
  | .ldyZp z => Sys2Proof.Machine.execLdyZp z s
  | .ldyAbs w => Sys2Proof.Machine.execLdyAbs w s
  | .ldyZpX z => Sys2Proof.Machine.execLdyZpX z s
  | .ldyAbsX w => Sys2Proof.Machine.execLdyAbsX w s
  | .staIndX z => Sys2Proof.Machine.execStaIndX z s
  | .staZp z => Sys2Proof.Machine.execStaZp z s
  | .staAbs w => Sys2Proof.Machine.execStaAbs w s
  | .staIndY z => Sys2Proof.Machine.execStaIndY z s
  | .staZpX z => Sys2Proof.Machine.execStaZpX z s
  | .staAbsY w => Sys2Proof.Machine.execStaAbsY w s
  | .staAbsX w => Sys2Proof.Machine.execStaAbsX w s
  | .stxZp z => Sys2Proof.Machine.execStxZp z s
  | .stxAbs w => Sys2Proof.Machine.execStxAbs w s
  | .stxZpY z => Sys2Proof.Machine.execStxZpY z s
  | .styZp z => Sys2Proof.Machine.execStyZp z s
  | .styAbs w => Sys2Proof.Machine.execStyAbs w s
  | .styZpX z => Sys2Proof.Machine.execStyZpX z s
  | .tax => Sys2Proof.Machine.execTax s
  | .tay => Sys2Proof.Machine.execTay s
  | .txa => Sys2Proof.Machine.execTxa s
  | .tya => Sys2Proof.Machine.execTya s
  | .tsx => Sys2Proof.Machine.execTsx s
  | .txs => Sys2Proof.Machine.execTxs s
  | .adcIndX z => Sys2Proof.Machine.execAdcIndX z s
  | .adcZp z => Sys2Proof.Machine.execAdcZp z s
  | .adcImm v => Sys2Proof.Machine.execAdcImm v s
  | .adcAbs w => Sys2Proof.Machine.execAdcAbs w s
  | .adcIndY z => Sys2Proof.Machine.execAdcIndY z s
  | .adcZpX z => Sys2Proof.Machine.execAdcZpX z s
  | .adcAbsY w => Sys2Proof.Machine.execAdcAbsY w s
  | .adcAbsX w => Sys2Proof.Machine.execAdcAbsX w s
  | .sbcIndX z => Sys2Proof.Machine.execSbcIndX z s
  | .sbcZp z => Sys2Proof.Machine.execSbcZp z s
  | .sbcImm v => Sys2Proof.Machine.execSbcImm v s
  | .sbcAbs w => Sys2Proof.Machine.execSbcAbs w s
  | .sbcIndY z => Sys2Proof.Machine.execSbcIndY z s
  | .sbcZpX z => Sys2Proof.Machine.execSbcZpX z s
  | .sbcAbsY w => Sys2Proof.Machine.execSbcAbsY w s
  | .sbcAbsX w => Sys2Proof.Machine.execSbcAbsX w s
  | .andIndX z => Sys2Proof.Machine.execAndIndX z s
  | .andZp z => Sys2Proof.Machine.execAndZp z s
  | .andImm v => Sys2Proof.Machine.execAndImm v s
  | .andAbs w => Sys2Proof.Machine.execAndAbs w s
  | .andIndY z => Sys2Proof.Machine.execAndIndY z s
  | .andZpX z => Sys2Proof.Machine.execAndZpX z s
  | .andAbsY w => Sys2Proof.Machine.execAndAbsY w s
  | .andAbsX w => Sys2Proof.Machine.execAndAbsX w s
  | .oraIndX z => Sys2Proof.Machine.execOraIndX z s
  | .oraZp z => Sys2Proof.Machine.execOraZp z s
  | .oraImm v => Sys2Proof.Machine.execOraImm v s
  | .oraAbs w => Sys2Proof.Machine.execOraAbs w s
  | .oraIndY z => Sys2Proof.Machine.execOraIndY z s
  | .oraZpX z => Sys2Proof.Machine.execOraZpX z s
  | .oraAbsY w => Sys2Proof.Machine.execOraAbsY w s
  | .oraAbsX w => Sys2Proof.Machine.execOraAbsX w s
  | .eorIndX z => Sys2Proof.Machine.execEorIndX z s
  | .eorZp z => Sys2Proof.Machine.execEorZp z s
  | .eorImm v => Sys2Proof.Machine.execEorImm v s
  | .eorAbs w => Sys2Proof.Machine.execEorAbs w s
  | .eorIndY z => Sys2Proof.Machine.execEorIndY z s
  | .eorZpX z => Sys2Proof.Machine.execEorZpX z s
  | .eorAbsY w => Sys2Proof.Machine.execEorAbsY w s
  | .eorAbsX w => Sys2Proof.Machine.execEorAbsX w s
  | .cmpIndX z => Sys2Proof.Machine.execCmpIndX z s
  | .cmpZp z => Sys2Proof.Machine.execCmpZp z s
  | .cmpImm v => Sys2Proof.Machine.execCmpImm v s
  | .cmpAbs w => Sys2Proof.Machine.execCmpAbs w s
  | .cmpIndY z => Sys2Proof.Machine.execCmpIndY z s
  | .cmpZpX z => Sys2Proof.Machine.execCmpZpX z s
  | .cmpAbsY w => Sys2Proof.Machine.execCmpAbsY w s
  | .cmpAbsX w => Sys2Proof.Machine.execCmpAbsX w s
  | .cpxImm v => Sys2Proof.Machine.execCpxImm v s
  | .cpxZp z => Sys2Proof.Machine.execCpxZp z s
  | .cpxAbs w => Sys2Proof.Machine.execCpxAbs w s
  | .cpyImm v => Sys2Proof.Machine.execCpyImm v s
  | .cpyZp z => Sys2Proof.Machine.execCpyZp z s
  | .cpyAbs w => Sys2Proof.Machine.execCpyAbs w s
  | .bitZp z => Sys2Proof.Machine.execBitZp z s
  | .bitAbs w => Sys2Proof.Machine.execBitAbs w s
  | .aslZp z => Sys2Proof.Machine.execAslZp z s
  | .aslAcc => Sys2Proof.Machine.execAslAcc s
  | .aslAbs w => Sys2Proof.Machine.execAslAbs w s
  | .aslZpX z => Sys2Proof.Machine.execAslZpX z s
  | .aslAbsX w => Sys2Proof.Machine.execAslAbsX w s
  | .lsrZp z => Sys2Proof.Machine.execLsrZp z s
  | .lsrAcc => Sys2Proof.Machine.execLsrAcc s
  | .lsrAbs w => Sys2Proof.Machine.execLsrAbs w s
  | .lsrZpX z => Sys2Proof.Machine.execLsrZpX z s
  | .lsrAbsX w => Sys2Proof.Machine.execLsrAbsX w s
  | .rolZp z => Sys2Proof.Machine.execRolZp z s
  | .rolAcc => Sys2Proof.Machine.execRolAcc s
  | .rolAbs w => Sys2Proof.Machine.execRolAbs w s
  | .rolZpX z => Sys2Proof.Machine.execRolZpX z s
  | .rolAbsX w => Sys2Proof.Machine.execRolAbsX w s
  | .rorZp z => Sys2Proof.Machine.execRorZp z s
  | .rorAcc => Sys2Proof.Machine.execRorAcc s
  | .rorAbs w => Sys2Proof.Machine.execRorAbs w s
  | .rorZpX z => Sys2Proof.Machine.execRorZpX z s
  | .rorAbsX w => Sys2Proof.Machine.execRorAbsX w s
  | .incZp z => Sys2Proof.Machine.execIncZp z s
  | .incAbs w => Sys2Proof.Machine.execIncAbs w s
  | .incZpX z => Sys2Proof.Machine.execIncZpX z s
  | .incAbsX w => Sys2Proof.Machine.execIncAbsX w s
  | .decZp z => Sys2Proof.Machine.execDecZp z s
  | .decAbs w => Sys2Proof.Machine.execDecAbs w s
  | .decZpX z => Sys2Proof.Machine.execDecZpX z s
  | .decAbsX w => Sys2Proof.Machine.execDecAbsX w s
  | .inx => Sys2Proof.Machine.execInx s
  | .iny => Sys2Proof.Machine.execIny s
  | .dex => Sys2Proof.Machine.execDex s
  | .dey => Sys2Proof.Machine.execDey s
  | .jmpAbs w => Sys2Proof.Machine.execJmpAbs w s
  | .jmpInd w => Sys2Proof.Machine.execJmpInd w s
  | .jsr w => Sys2Proof.Machine.execJsr w s
  | .rts => Sys2Proof.Machine.execRts s
  | .bcc r => Sys2Proof.Machine.execBcc r s
  | .bcs r => Sys2Proof.Machine.execBcs r s
  | .beq r => Sys2Proof.Machine.execBeq r s
  | .bmi r => Sys2Proof.Machine.execBmi r s
  | .bne r => Sys2Proof.Machine.execBne r s
  | .bpl r => Sys2Proof.Machine.execBpl r s
  | .bvc r => Sys2Proof.Machine.execBvc r s
  | .bvs r => Sys2Proof.Machine.execBvs r s
  | .pha => Sys2Proof.Machine.execPha s
  | .php => Sys2Proof.Machine.execPhp s
  | .pla => Sys2Proof.Machine.execPla s
  | .plp => Sys2Proof.Machine.execPlp s
  | .clc => Sys2Proof.Machine.execClc s
  | .cld => Sys2Proof.Machine.execCld s
  | .cli => Sys2Proof.Machine.execCli s
  | .clv => Sys2Proof.Machine.execClv s
  | .sec => Sys2Proof.Machine.execSec s
  | .sed => Sys2Proof.Machine.execSed s
  | .sei => Sys2Proof.Machine.execSei s
  | .nop => Sys2Proof.Machine.execNop s
  | .brk => Sys2Proof.Machine.execBrk s
  | .rti => Sys2Proof.Machine.execRti s
  | .unimplemented op => Sys2Proof.Machine.execUnimplemented op s

end Sys2Proof.Machine
end

