-- ==== Sys2Proof/Machine/Fetch.lean ====
section
/-! DEFINITION. Fetching an instruction's bytes at PC (41_dispatch.md R121, 20_memory.md R73), and
laying bytes out in memory. -/

namespace Sys2Proof.Machine

open Sys2Proof

/-- The bytes from PC on, as many as the longest instruction has; addresses wrap mod 65536
(30_encoding.md R81). Reading a byte past the instruction has no effect (R63, R75). -/
def fetchBytes (s : State) : List Byte :=
  [s.readByte s.pc, s.readByte (s.pc + 1#16), s.readByte (s.pc + 2#16)]

/-- The instruction at PC. -/
def fetch (s : State) : Instr :=
  decodeBytes (s.readByte s.pc) (s.readByte (s.pc + 1#16)) (s.readByte (s.pc + 2#16))

/-- Store bytes at consecutive addresses from `a` on, mod 65536, in order (R66). -/
def placeBytes (s : State) (a : Word) (bytes : List Byte) : State :=
  match bytes with
  | [] => s
  | b :: rest => placeBytes (s.writeByte a b) (a + 1#16) rest

end Sys2Proof.Machine
end

