-- ==== Sys2Proof/Machine/Step.lean ====
section
/-! DEFINITION. One step of the core: the instruction fetched at PC, executed (41_dispatch.md R121).
The step polls for no interrupt (R121, 60_exceptions.md R306). -/

namespace Sys2Proof.Machine

/-- `step()` (R121). -/
def step (s : State) : Host.Outcome State Fault Refusal := exec (fetch s) s

/-- `s` with the instruction whose bits are `w` (an opcode-table row of `nbits` bits, the bits above
zero) stored at PC, where the next step fetches it. -/
def State.withFetchWord (s : State) (nbits w : Nat) : State := placeBytes s s.pc (tableBytes nbits w)

end Sys2Proof.Machine
end

