-- ==== Sys2Proof/Machine/Parameters.lean ====
section
/-! DEFINITION. The machine with the parameters CYCLE_WIDTH and BASE_CYCLES as an argument
(00_scope.md R7; 92_eei_decisions.md D1, D9): one instruction, one step and the whole core for any
value of them. `exec`, `step` and `Sys2Proof.core` are these at `defaultParams`. -/

namespace Sys2Proof.Machine

open Sys2Proof

/-- One instruction under the parameters: the shared operation of its mnemonic. An empty slot has no
base cost (R88, 41_dispatch.md R124). -/
def execWith (params : Params) (i : Instr) (s : State) : StepResult :=
  match i.mnemonic with
  | .LDA => runLda params i s
  | .LDX => runLdx params i s
  | .LDY => runLdy params i s
  | .STA => runSta params i s
  | .STX => runStx params i s
  | .STY => runSty params i s
  | .TAX => runTax params i s
  | .TAY => runTay params i s
  | .TXA => runTxa params i s
  | .TYA => runTya params i s
  | .TSX => runTsx params i s
  | .TXS => runTxs params i s
  | .ADC => runAdc params i s
  | .SBC => runSbc params i s
  | .AND => runAnd params i s
  | .ORA => runOra params i s
  | .EOR => runEor params i s
  | .CMP => runCmp params i s
  | .CPX => runCpx params i s
  | .CPY => runCpy params i s
  | .BIT => runBit params i s
  | .ASL => runAsl params i s
  | .LSR => runLsr params i s
  | .ROL => runRol params i s
  | .ROR => runRor params i s
  | .INC => runInc params i s
  | .DEC => runDec params i s
  | .INX => runInx params i s
  | .INY => runIny params i s
  | .DEX => runDex params i s
  | .DEY => runDey params i s
  | .JMP => runJmp params i s
  | .JSR => runJsr params i s
  | .RTS => runRts params i s
  | .BCC => runBcc params i s
  | .BCS => runBcs params i s
  | .BEQ => runBeq params i s
  | .BMI => runBmi params i s
  | .BNE => runBne params i s
  | .BPL => runBpl params i s
  | .BVC => runBvc params i s
  | .BVS => runBvs params i s
  | .PHA => runPha params i s
  | .PHP => runPhp params i s
  | .PLA => runPla params i s
  | .PLP => runPlp params i s
  | .CLC => runClc params i s
  | .CLD => runCld params i s
  | .CLI => runCli params i s
  | .CLV => runClv params i s
  | .SEC => runSec params i s
  | .SED => runSed params i s
  | .SEI => runSei params i s
  | .NOP => runNop params i s
  | .BRK => runBrk params i s
  | .RTI => runRti params i s
  | .UNIMPLEMENTED => runUnimplemented params i.opcode s

/-- `step()` under the parameters (41_dispatch.md R121). -/
def stepWith (params : Params) (s : State) : StepResult := execWith params (fetch s) s

/-- The core under the parameters. -/
def coreWith (params : Params) : Host.Core where
  State   := State
  Fault   := Fault
  Refusal := Refusal
  step    := stepWith params
  reset   := State.reset

end Sys2Proof.Machine
end

