-- ==== Sys2Proof/Machine/HostInterface.lean ====
section
/-! DEFINITION. The host's operations on the core, all of them (41_dispatch.md R133): reset, step,
run, loadProgram, irq, nmi, the accessors, getMemory, setMemory. They act between steps, one at a
time (R134). Those that charge CYC take the parameters as an argument, with their defaults
(00_scope.md R7). -/

namespace Sys2Proof.Machine

open Sys2Proof

/-- `reset()` (70_reset_and_hazards.md R340): memory and DIAG are kept. -/
def hostReset (s : State) : State :=
  { s with
    a   := 0x00#8
    x   := 0x00#8
    y   := 0x00#8
    sr  := Config.resetSR
    sp  := Config.resetSP
    pc  := s.readWord resetVector
    cyc := 0 }

/-- A core before its first reset: every memory cell 0x00 and an empty DIAG (R341). The registers
are overwritten by the reset that ends construction. -/
def blank : State :=
  { a := 0#8, x := 0#8, y := 0#8, sp := 0#8, sr := 0#8, pc := 0#16, cyc := 0, mem := [], diag := [] }

/-- Construction: the blank core, reset (R341). -/
def construct : State := hostReset blank

/-- `irq()` (60_exceptions.md R300, R301): nothing when SR.I is set, and the request is forgotten. -/
def hostIrq (s : State) (params : Params := defaultParams) : State :=
  if s.flag .I then s
  else (s.enterInterrupt s.pc (statusBreakClear s.sr) irqVector).charge params irqCycles

/-- `nmi()` (R302): taken whatever SR.I holds. -/
def hostNmi (s : State) (params : Params := defaultParams) : State :=
  (s.enterInterrupt s.pc (statusBreakClear s.sr) nmiVector).charge params nmiCycles

/-- `run(n)`: `step()` exactly n times (41_dispatch.md R125). -/
def hostRun (n : Nat) (s : State) (params : Params := defaultParams) : StepResult :=
  match n with
  | 0 => .next s
  | k + 1 =>
    match stepWith params s with
    | .next t => hostRun k t params
    | .fault f => .fault f
    | .refused r => .refused r

/-- `loadProgram(bytes, start)` (20_memory.md R66): bytes masked to 8 bits, stored in order from
`start mod 65536` on, wrapping. No register changes. -/
def hostLoadProgram (bytes : List Nat) (start : Nat) (s : State) : State :=
  placeBytes s (BitVec.ofNat 16 start) (bytes.map (BitVec.ofNat 8))

/-- `setMemory(addr, byte)` (R67). -/
def hostSetMemory (addr byte : Nat) (s : State) : State :=
  s.writeByte (BitVec.ofNat 16 addr) (BitVec.ofNat 8 byte)

/-- `getMemory(addr)` (R67). -/
def hostGetMemory (addr : Nat) (s : State) : Byte := s.readByte (BitVec.ofNat 16 addr)

/-- `getA()` (41_dispatch.md R133). -/
def hostGetA (s : State) : Byte := s.a

/-- `getX()` (R133). -/
def hostGetX (s : State) : Byte := s.x

/-- `getY()` (R133). -/
def hostGetY (s : State) : Byte := s.y

/-- `getPC()` (R133). -/
def hostGetPC (s : State) : Word := s.pc

/-- `getSP()` (R133). -/
def hostGetSP (s : State) : Byte := s.sp

/-- `getStatus()`: SR verbatim, the stored Break bit included (R133, 10_state.md R28). -/
def hostGetStatus (s : State) : Byte := s.sr

/-- `getCycles()` (R133). -/
def hostGetCycles (s : State) : Nat := s.cyc

/-- The host operations that change the core (R133). The accessors change nothing. -/
inductive HostCall where
  | reset
  | step
  | run (n : Nat)
  | loadProgram (bytes : List Nat) (start : Nat)
  | irq
  | nmi
  | setMemory (addr byte : Nat)
  deriving DecidableEq, Repr

/-- What one host operation does (R133). -/
def hostCall (c : HostCall) (s : State) (params : Params := defaultParams) : StepResult :=
  match c with
  | .reset => .next (hostReset s)
  | .step => stepWith params s
  | .run n => hostRun n s params
  | .loadProgram bytes start => .next (hostLoadProgram bytes start s)
  | .irq => .next (hostIrq s params)
  | .nmi => .next (hostNmi s params)
  | .setMemory addr byte => .next (hostSetMemory addr byte s)

/-- A run: a finite list of host operations, in the host's order (R134, R135). -/
def hostCalls (calls : List HostCall) (s : State) (params : Params := defaultParams) :
    StepResult :=
  match calls with
  | [] => .next s
  | c :: rest =>
    match hostCall c s params with
    | .next t => hostCalls rest t params
    | .fault f => .fault f
    | .refused r => .refused r

end Sys2Proof.Machine
end

