-- ==== Sys2Proof/Safety.lean ====
section
/-! DEFINITION. What claims about runs use: the invariant of the core's states, the states a host can
bring the core into, and a run without an unimplemented opcode. -/

namespace Sys2Proof.Machine

/-- The invariant: memory has its canonical form (log entry 4) and the Unused bit of SR is 1
(10_state.md R29). -/
abbrev State.Inv (s : State) : Prop := Memory.wf s.mem ∧ s.flag .U = true

/-- The states a host can bring a constructed core into, by any list of operations (41_dispatch.md
R133, R135). -/
def Reachable (s : State) : Prop := ∃ calls, hostCalls calls State.reset = .next s

/-- From `s` to `t` no unimplemented opcode was executed: DIAG did not grow (10_state.md R33). -/
def cleanRun (s t : State) : Prop := t.diag = s.diag

end Sys2Proof.Machine
end

