-- ==== Sys2Proof/Certificates/Slice0/Obligations.lean ====
section
/-! DEFINITION. The statements for the provers. Register, flag and memory results are stated over
every state and every operand. An instruction's cost stands as R122 gives it, base cost, extra and
penalty, and no statement but `CycleCosts` rests on the values of the base costs
(92_eei_decisions.md D9, log entry 2) or on which instructions pay the penalty (D8). `exec` and
`step` are the machine at the default parameters, where CYC is unbounded (D1, log entry 1);
`CycleCosts` says what other parameters change. The operation each mnemonic names is, by the spec's
own mark, from general knowledge of the 6502 (D14); the rules state it, and the statements follow the
rules. -/

open Sys2Proof Sys2Proof.Machine

namespace Sys2Proof.Claims

/-- `s` with PC past the instruction (10_state.md R31) and CYC charged as 41_dispatch.md R122 says:
base cost, the effect's `extra`, and the page-crossing penalty; nothing else differs. -/
def passed (i : Instr) (extra : Nat) (s : State) : State :=
  { s with
    pc  := nextPC i s
    cyc := s.cyc + (baseCycles i.opcode + extra +
      pagePenalty i.mnemonic (resolvedOf i s).crossed) }

/-- The flags after a result `v` (10_state.md R26): Z iff it is zero, N its bit 7, the rest as in
`s`. -/
def znFlags (s : State) (v : Byte) (f : Flag) : Bool :=
  match f with
  | .Z => decide (v.toNat = 0)
  | .N => decide (128 ≤ v.toNat)
  | f => s.flag f

/-- `t` reads as `s` does but for the one byte `v` at `a`. -/
def storedAt (s t : State) (a : Word) (v : Byte) : Prop :=
  ∀ k, t.readByte k = if k = a then v else s.readByte k

/-- The three-byte interrupt frame on the stack of `s` (47_interrupt_instr.md R292): `t` reads as
`s` does but for the frame, and its SP is three lower. -/
def framePushed (s t : State) (returnPC : Word) (status : Byte) : Prop :=
  t.sp = s.sp - 3#8 ∧
  ∀ k, t.readByte k =
    if k = 0x0100#16 + zext16 s.sp then hi returnPC
    else if k = 0x0100#16 + zext16 (s.sp - 1#8) then lo returnPC
    else if k = 0x0100#16 + zext16 (s.sp - 2#8) then status
    else s.readByte k

/-- An instruction that puts `result` into A, with its Z and N, returns no extra cycles, and changes
nothing else. -/
def setsA (m : Mnemonic) (result : Instr → State → Byte) : Prop :=
  ∀ i s, i.mnemonic = m → ∃ t, exec i s = .next t ∧
    { t with a := s.a, sr := s.sr } = passed i 0 s ∧
    t.a = result i s ∧ ∀ f, t.flag f = znFlags s (result i s) f

/-- The same for X. -/
def setsX (m : Mnemonic) (result : Instr → State → Byte) : Prop :=
  ∀ i s, i.mnemonic = m → ∃ t, exec i s = .next t ∧
    { t with x := s.x, sr := s.sr } = passed i 0 s ∧
    t.x = result i s ∧ ∀ f, t.flag f = znFlags s (result i s) f

/-- The same for Y. -/
def setsY (m : Mnemonic) (result : Instr → State → Byte) : Prop :=
  ∀ i s, i.mnemonic = m → ∃ t, exec i s = .next t ∧
    { t with y := s.y, sr := s.sr } = passed i 0 s ∧
    t.y = result i s ∧ ∀ f, t.flag f = znFlags s (result i s) f

/-- A store of a register: one byte at the effective address, no flag. -/
def stores (m : Mnemonic) (value : State → Byte) : Prop :=
  ∀ i s, i.mnemonic = m → ∃ t, exec i s = .next t ∧
    { t with mem := s.mem } = passed i 0 s ∧ storedAt s t (resolvedOf i s).ea (value s)

/-- A comparison of a register with the operand byte: the flags alone change. -/
def compares (m : Mnemonic) (reg : State → Byte) : Prop :=
  ∀ i s, i.mnemonic = m → ∃ t, exec i s = .next t ∧
    { t with sr := s.sr } = passed i 0 s ∧
    ∀ f, t.flag f = match f with
      | .C => decide ((operandByte i s).toNat ≤ (reg s).toNat)
      | .Z => decide (reg s = operandByte i s)
      | .N => decide (128 ≤ ((reg s).toNat + 256 - (operandByte i s).toNat) % 256)
      | f => s.flag f

/-- A shift or rotate: on A in ACCUMULATOR mode, else on the byte at the effective address; Carry,
Z and N written. -/
def shifts (m : Mnemonic) (result : Nat → Bool → Nat) (carry : Nat → Bool) : Prop :=
  ∀ i s, i.mnemonic = m → ∃ t, exec i s = .next t ∧
    (∀ f, t.flag f = match f with
      | .C => carry (operandByte i s).toNat
      | f => znFlags s (BitVec.ofNat 8 (result (operandByte i s).toNat (s.flag .C))) f) ∧
    (i.operand = .accumulator →
      { t with a := s.a, sr := s.sr } = passed i 0 s ∧
      t.a = BitVec.ofNat 8 (result s.a.toNat (s.flag .C))) ∧
    (i.operand ≠ .accumulator →
      { t with mem := s.mem, sr := s.sr } = passed i 0 s ∧
      storedAt s t (resolvedOf i s).ea
        (BitVec.ofNat 8 (result (s.readByte (resolvedOf i s).ea).toNat (s.flag .C))))

/-- An increment or decrement of the byte at the effective address. -/
def updatesMemory (m : Mnemonic) (result : Byte → Byte) : Prop :=
  ∀ i s, i.mnemonic = m → ∃ t, exec i s = .next t ∧
    { t with mem := s.mem, sr := s.sr } = passed i 0 s ∧
    storedAt s t (resolvedOf i s).ea (result (s.readByte (resolvedOf i s).ea)) ∧
    ∀ f, t.flag f = znFlags s (result (s.readByte (resolvedOf i s).ea)) f

/-- What a cycle counter of width `w` shows of a count (92_eei_decisions.md D1). -/
def shownCycles (w : CycleWidth) (count : Nat) : Nat :=
  match w with
  | .unbounded => count
  | .bits n => count % 2 ^ n

/-- A conditional branch (45_control.md R230). -/
def branches (m : Mnemonic) (taken : State → Bool) : Prop :=
  ∀ i s, i.mnemonic = m → exec i s = .next
    (if taken s then { passed i (1 + bit (resolvedOf i s).crossed) s with pc := (resolvedOf i s).ea }
     else passed i 0 s)

/-- An instruction that writes one flag and nothing else. -/
def writesFlag (i : Instr) (f : Flag) (b : Bool) : Prop :=
  ∀ s, ∃ t, exec i s = .next t ∧ { t with sr := s.sr } = passed i 0 s ∧
    ∀ g, t.flag g = if g = f then b else s.flag g

end Sys2Proof.Claims

open Sys2Proof.Claims

/-! ## Encoding and decoding (30_encoding.md) -/

/-- Decoding the bytes of any well-formed instruction gives it back, with every operand at every
value, and leaves the bytes after it. -/
def Obligations.DecodeOfEncode : Prop :=
  ∀ (i : Instr) (rest : List Byte), i.WellFormed → decode (encode i ++ rest) = .ok i rest

/-- Whatever decodes is well formed, and its encoding is the bytes that were consumed. -/
def Obligations.EncodeOfDecode : Prop :=
  ∀ (bytes rest : List Byte) (i : Instr), decode bytes = .ok i rest →
    i.WellFormed ∧ encode i ++ rest = bytes

/-- R90: every byte 0x00-0xFF selects a descriptor of R87 or an empty slot of R88. -/
def Obligations.DecoderIsTotal : Prop :=
  ∀ op b1 b2 : Byte,
    (decodeBytes op b1 b2).WellFormed ∧ (decodeBytes op b1 b2).opcode = op ∧
    (decodeBytes op b1 b2 = .unimplemented op ↔ isEmptySlot op = true)

/-- R82: the length follows from the opcode byte alone, 1 + operand width, or 1 for an empty slot. -/
def Obligations.LengthFromOpcode : Prop :=
  ∀ op b1 b2 c1 c2 : Byte,
    (decodeBytes op b1 b2).length = (decodeBytes op c1 c2).length ∧
    (decodeBytes op b1 b2).length = 1 + operandWidth (decodeBytes op b1 b2).operand ∧
    (encode (decodeBytes op b1 b2)).length = (decodeBytes op b1 b2).length ∧
    (isEmptySlot op = true → (decodeBytes op b1 b2).length = 1)

/-- Words of one instruction of each family decode to the instruction they stand for. -/
def Obligations.SpecWordsDecode : Prop :=
  decode [0xBD#8, 0x34#8, 0x12#8] = .ok (.ldaAbsX 0x1234#16) [] ∧
  decode [0x69#8, 0x05#8] = .ok (.adcImm 0x05#8) [] ∧
  decode [0x0A#8] = .ok .aslAcc [] ∧
  decode [0x6C#8, 0xFF#8, 0x12#8] = .ok (.jmpInd 0x12FF#16) [] ∧
  decode [0xD0#8, 0xFC#8] = .ok (.bne 0xFC#8) [] ∧
  decode [0x48#8] = .ok .pha [] ∧
  decode [0x00#8, 0xFF#8] = .ok .brk [0xFF#8] ∧
  decode [0x80#8, 0x55#8] = .ok (.unimplemented 0x80#8) [0x55#8]

/-! ## The step (41_dispatch.md) -/

/-- When the three bytes at PC (addresses wrapping mod 65536) decode to `i`, a step is `exec i`;
the step adds nothing around it (R121). -/
def Obligations.StepRunsDecoded : Prop :=
  ∀ (s : State) (i : Instr) (rest : List Byte),
    decode [s.readByte s.pc, s.readByte (s.pc + 1#16), s.readByte (s.pc + 2#16)] = .ok i rest →
    step s = exec i s

/-- R127: every step and every instruction has a next state, from every state; by `step` and `exec`
being functions, exactly one. So has every list of host operations. -/
def Obligations.EveryStepHasNext : Prop :=
  (∀ s : State, ∃ t, step s = .next t) ∧ (∀ (i : Instr) (s : State), ∃ t, exec i s = .next t) ∧
  ∀ (calls : List HostCall) (s : State), ∃ t, hostCalls calls s = .next t

/-- R30, R122, R123: a step adds at least 2 and at most 7 cycles, so CYC rises with every step; every
documented base cost lies in 2..7, and the costs the source names are as it says (the other values
are the spec's decision D9); a page crossing costs one cycle in nine mnemonics and nothing in any
other (the spec's decision D8). R7, R87, R347: CYCLE_WIDTH (D1) and BASE_CYCLES (D9) are an argument,
and `step` is the step at their defaults. Under any other values an instruction, an irq() and an
nmi() differ in CYC alone: the count differs by the difference of the base costs, and a counter of
`n` bits shows it mod 2 ^ n. Unbounded, CYC rises with every step under every positive table. -/
def Obligations.CycleCosts : Prop :=
  (∀ s t : State, step s = .next t → s.cyc + 2 ≤ t.cyc ∧ t.cyc ≤ s.cyc + 7) ∧
  (∀ i : Instr, i.mnemonic ≠ .UNIMPLEMENTED →
    2 ≤ baseCycles i.opcode ∧ baseCycles i.opcode ≤ 7) ∧
  (∀ (i : Instr) (crossed : Bool), pagePenalty i.mnemonic crossed =
    if crossed = true ∧ i.mnemonic ∈ [.LDA, .LDX, .LDY, .ADC, .SBC, .AND, .ORA, .EOR, .CMP]
    then 1 else 0) ∧
  baseCycles 0x00#8 = 7 ∧ baseCycles 0xA9#8 = 2 ∧ baseCycles 0x69#8 = 4 ∧ baseCycles 0xE8#8 = 2 ∧
  defaultParams.costs = baseCycles ∧ defaultParams.cycleWidth = .unbounded ∧
  (∀ s : State, step s = stepWith defaultParams s) ∧
  (∀ (params : Params) (i : Instr) (s : State), ∃ t u count,
    execWith params i s = .next t ∧ exec i s = .next u ∧
    t = { u with cyc := shownCycles params.cycleWidth count } ∧
    (if i.mnemonic = .UNIMPLEMENTED then count = u.cyc
     else count + baseCycles i.opcode = u.cyc + params.costs i.opcode)) ∧
  (∀ (params : Params) (s : State),
    (s.flag .I = true → hostIrq s params = s) ∧
    (s.flag .I = false → hostIrq s params =
      { hostIrq s with cyc := shownCycles params.cycleWidth (s.cyc + 7) }) ∧
    hostNmi s params = { hostNmi s with cyc := shownCycles params.cycleWidth (s.cyc + 8) }) ∧
  ∀ (params : Params) (s t : State), params.cycleWidth = .unbounded →
    (∀ op, isEmptySlot op = false → 0 < params.costs op) →
    stepWith params s = .next t → s.cyc < t.cyc

/-! ## Memory and stack (20_memory.md) -/

/-- R54: a write is read back at its address and changes no other cell and no register. -/
def Obligations.WriteChangesOneByte : Prop :=
  ∀ (s : State) (a : Word) (v : Byte),
    storedAt s (s.writeByte a v) a v ∧ { s.writeByte a v with mem := s.mem } = s

/-- R53, R55: words are little-endian; the high byte's address wraps mod 65536, in page zero mod
256. -/
def Obligations.WordReads : Prop :=
  ∀ (s : State) (a : Word) (p : Byte),
    (s.readWord a).toNat =
      256 * (s.readByte (BitVec.ofNat 16 ((a.toNat + 1) % 65536))).toNat + (s.readByte a).toNat ∧
    (s.readZP16 p).toNat =
      256 * (s.readByte (BitVec.ofNat 16 ((p.toNat + 1) % 256))).toNat +
        (s.readByte (BitVec.ofNat 16 p.toNat)).toNat

/-- R58, R59, R64: a push writes the cell 0x0100 + SP and lowers SP mod 256; the pop after it returns
the byte and restores SP. That the store comes before the decrement is the spec's decision D2. -/
def Obligations.PushThenPop : Prop :=
  ∀ (s : State) (v : Byte),
    (s.push8 v).popByte = v ∧ (s.push8 v).popped.sp = s.sp ∧
    (s.push8 v).sp.toNat = (s.sp.toNat + 255) % 256 ∧
    storedAt s (s.push8 v) (BitVec.ofNat 16 (0x0100 + s.sp.toNat)) v ∧
    { s.push8 v with mem := s.mem, sp := s.sp } = s

/-- R60, R61: push16 puts the high byte at 0x0100 + SP and the low byte in the cell below (mod 256
in the page), and pop16 gives the word back and restores SP (order by D2). -/
def Obligations.PushWordThenPopWord : Prop :=
  ∀ (s : State) (w : Word),
    (s.push16 w).popWord = w ∧ (s.push16 w).popped.popped.sp = s.sp ∧
    (∀ k, (s.push16 w).readByte k =
      if k = 0x0100#16 + zext16 s.sp then hi w
      else if k = 0x0100#16 + zext16 (s.sp - 1#8) then lo w else s.readByte k) ∧
    { s.push16 w with mem := s.mem, sp := s.sp } = s

/-! ## Flags (10_state.md) -/

/-- R24, R25: the flags' bits and masks; setFlag writes its flag and no other and nothing else; a
whole-byte write of SR takes every bit as it is but Unused, which is then 1. -/
def Obligations.SetFlagWritesOneFlag : Prop :=
  [Flag.C, .Z, .I, .D, .B, .U, .V, .N].map flagMask =
    [0x01#8, 0x02#8, 0x04#8, 0x08#8, 0x10#8, 0x20#8, 0x40#8, 0x80#8] ∧
  ∀ (s : State) (f g : Flag) (b : Bool) (v : Byte),
    s.flag f = decide (s.sr &&& flagMask f ≠ 0#8) ∧
    (s.setFlag f b).flag g = (if g = f then b else s.flag g) ∧
    { s.setFlag f b with sr := s.sr } = s ∧
    (s.writeStatus v).flag g = (if g = .U then true else decide (v &&& flagMask g ≠ 0#8)) ∧
    { s.writeStatus v with sr := s.sr } = s

/-- R26: setZN writes Z and N from the byte, no other flag and nothing else. -/
def Obligations.SetZNWritesZeroAndNegative : Prop :=
  ∀ (s : State) (v : Byte),
    (∀ f, (s.setZN v).flag f = znFlags s v f) ∧ { s.setZN v with sr := s.sr } = s

/-! ## Addressing modes (40_addressing.md) -/

/-- R101: the operand of IMMEDIATE is the byte after the opcode, at the effective address. -/
def Obligations.ImmediateMode : Prop :=
  ∀ (s : State) (v : Byte), (fetch s).operand = .immediate v →
    (resolvedOf (fetch s) s).ea = s.pc + 1#16 ∧ s.readByte (s.pc + 1#16) = v ∧
    operandByte (fetch s) s = v ∧ (resolvedOf (fetch s) s).crossed = false ∧
    nextPC (fetch s) s = s.pc + 2#16

/-- R102, R103, R111: the zero-page modes stay in page zero, the indexed ones wrapping mod 256;
ZERO_PAGE_Y is used only by LDX and STX; the operand byte is the byte at the effective address. -/
def Obligations.ZeroPageModes : Prop :=
  ∀ (i : Instr) (s : State) (z : Byte),
    (i.operand = .zeroPage z → encode i = [i.opcode, z] ∧
      (resolvedOf i s).ea.toNat = z.toNat ∧ (resolvedOf i s).crossed = false ∧
      operandByte i s = s.readByte (resolvedOf i s).ea ∧ nextPC i s = s.pc + 2#16) ∧
    (i.operand = .zeroPageX z → encode i = [i.opcode, z] ∧
      (resolvedOf i s).ea.toNat = (z.toNat + s.x.toNat) % 256 ∧
      (resolvedOf i s).crossed = false ∧
      operandByte i s = s.readByte (resolvedOf i s).ea ∧ nextPC i s = s.pc + 2#16) ∧
    (i.operand = .zeroPageY z → encode i = [i.opcode, z] ∧
      (resolvedOf i s).ea.toNat = (z.toNat + s.y.toNat) % 256 ∧
      (resolvedOf i s).crossed = false ∧
      operandByte i s = s.readByte (resolvedOf i s).ea ∧ nextPC i s = s.pc + 2#16 ∧
      i.mnemonic ∈ [.LDX, .STX])

/-- R104, R105, R111: the absolute modes take a little-endian word; an index is added mod 65536, and
`crossed` says that the high byte changed; the operand byte is the byte at the effective address. -/
def Obligations.AbsoluteModes : Prop :=
  ∀ (i : Instr) (s : State) (w : Word),
    (i.operand = .absolute w →
      encode i = [i.opcode, BitVec.ofNat 8 (w.toNat % 256), BitVec.ofNat 8 (w.toNat / 256)] ∧
      (resolvedOf i s).ea = w ∧ (resolvedOf i s).crossed = false ∧
      operandByte i s = s.readByte (resolvedOf i s).ea ∧ nextPC i s = s.pc + 3#16) ∧
    (i.operand = .absoluteX w →
      encode i = [i.opcode, BitVec.ofNat 8 (w.toNat % 256), BitVec.ofNat 8 (w.toNat / 256)] ∧
      (resolvedOf i s).ea.toNat = (w.toNat + s.x.toNat) % 65536 ∧
      ((resolvedOf i s).crossed = true ↔ w.toNat / 256 ≠ (resolvedOf i s).ea.toNat / 256) ∧
      operandByte i s = s.readByte (resolvedOf i s).ea ∧ nextPC i s = s.pc + 3#16) ∧
    (i.operand = .absoluteY w →
      encode i = [i.opcode, BitVec.ofNat 8 (w.toNat % 256), BitVec.ofNat 8 (w.toNat / 256)] ∧
      (resolvedOf i s).ea.toNat = (w.toNat + s.y.toNat) % 65536 ∧
      ((resolvedOf i s).crossed = true ↔ w.toNat / 256 ≠ (resolvedOf i s).ea.toNat / 256) ∧
      operandByte i s = s.readByte (resolvedOf i s).ea ∧ nextPC i s = s.pc + 3#16)

/-- R106, R107, R111: the zero-page pointer modes, the pointer's bytes both in page zero; INDIRECT_X
indexes the pointer's address mod 256, INDIRECT_Y its content mod 65536; the operand byte is the
byte at the effective address. -/
def Obligations.IndirectIndexedModes : Prop :=
  ∀ (i : Instr) (s : State) (z : Byte),
    (i.operand = .indirectX z → encode i = [i.opcode, z] ∧
      (resolvedOf i s).ea.toNat =
        256 * (s.readByte (BitVec.ofNat 16 ((z.toNat + s.x.toNat + 1) % 256))).toNat +
          (s.readByte (BitVec.ofNat 16 ((z.toNat + s.x.toNat) % 256))).toNat ∧
      (resolvedOf i s).crossed = false ∧
      operandByte i s = s.readByte (resolvedOf i s).ea ∧ nextPC i s = s.pc + 2#16) ∧
    (i.operand = .indirectY z → encode i = [i.opcode, z] ∧
      (resolvedOf i s).ea.toNat = ((s.readZP16 z).toNat + s.y.toNat) % 65536 ∧
      ((resolvedOf i s).crossed = true ↔
        (s.readZP16 z).toNat / 256 ≠ (resolvedOf i s).ea.toNat / 256) ∧
      operandByte i s = s.readByte (resolvedOf i s).ea ∧ nextPC i s = s.pc + 2#16)

/-- R108: ABSOLUTE_INDIRECT reads the target's low byte at the pointer and its high byte at the
pointer plus one within the pointer's page; only JMP uses it. -/
def Obligations.AbsoluteIndirectMode : Prop :=
  ∀ (i : Instr) (s : State) (w : Word), i.operand = .absoluteIndirect w →
    encode i = [i.opcode, BitVec.ofNat 8 (w.toNat % 256), BitVec.ofNat 8 (w.toNat / 256)] ∧
    (resolvedOf i s).ea.toNat =
      256 * (s.readByte (BitVec.ofNat 16 (w.toNat / 256 * 256 + (w.toNat + 1) % 256))).toNat +
        (s.readByte w).toNat ∧
    (resolvedOf i s).crossed = false ∧ nextPC i s = s.pc + 3#16 ∧ i.mnemonic = .JMP

/-- R109: the target of RELATIVE is the next instruction's address plus the signed offset, mod
65536, and `crossed` compares their high bytes. -/
def Obligations.RelativeMode : Prop :=
  ∀ (i : Instr) (s : State) (r : Byte), i.operand = .relative r →
    encode i = [i.opcode, r] ∧ nextPC i s = s.pc + 2#16 ∧
    (resolvedOf i s).ea.toNat =
      ((nextPC i s).toNat + (if r.toNat < 128 then r.toNat else r.toNat + 0xFF00)) % 65536 ∧
    ((resolvedOf i s).crossed = true ↔
      (resolvedOf i s).ea.toNat / 256 ≠ (nextPC i s).toNat / 256)

/-- R110, R111: ACCUMULATOR and IMPLIED have no operand byte in the instruction and the placeholder
address 0; in ACCUMULATOR mode what is read is A. -/
def Obligations.NoOperandModes : Prop :=
  ∀ (i : Instr) (s : State), i.operand = .accumulator ∨ i.operand = .implied →
    encode i = [i.opcode] ∧ (resolvedOf i s).ea = 0x0000#16 ∧
    (resolvedOf i s).crossed = false ∧ nextPC i s = s.pc + 1#16 ∧
    (i.operand = .accumulator → operandByte i s = s.a)

/-! ## Loads, stores and transfers (42_load_store_transfer.md) -/

/-- R141, R142, R143: the register takes the operand byte, Z and N follow it, and nothing else
changes. -/
def Obligations.LoadResults : Prop :=
  setsA .LDA operandByte ∧ setsX .LDX operandByte ∧
  setsY .LDY operandByte

/-- R144, R145, R146: the register's byte at the effective address, no flag written. -/
def Obligations.StoreResults : Prop :=
  stores .STA (fun s => s.a) ∧ stores .STX (fun s => s.x) ∧ stores .STY (fun s => s.y)

/-- R147 to R152: the transfers; TXS alone writes no flag. -/
def Obligations.TransferResults : Prop :=
  setsX .TAX (fun _ s => s.a) ∧ setsY .TAY (fun _ s => s.a) ∧
  setsA .TXA (fun _ s => s.x) ∧ setsA .TYA (fun _ s => s.y) ∧
  setsX .TSX (fun _ s => s.sp) ∧
  ∀ s, exec .txs s = .next { passed .txs 0 s with sp := s.x }

/-! ## Arithmetic and logic (43_arith_logic.md) -/

/-- R171, R175: A becomes the sum mod 256; C, V, Z, N by the rule; nothing else changes. -/
def Obligations.AdcResult : Prop :=
  ∀ i s, i.mnemonic = .ADC → ∃ t, exec i s = .next t ∧
    { t with a := s.a, sr := s.sr } = passed i 0 s ∧
    t.a.toNat = (s.a.toNat + (operandByte i s).toNat + bit (s.flag .C)) % 256 ∧
    ∀ f, t.flag f = match f with
      | .C => decide (255 < s.a.toNat + (operandByte i s).toNat + bit (s.flag .C))
      | .V => decide (s.a.msb = (operandByte i s).msb ∧ s.a.msb ≠ t.a.msb)
      | f => znFlags s t.a f

/-- R172, R176: A becomes A - M - (1 - C) mod 256; C says no borrow; V, Z, N by the rule. -/
def Obligations.SbcResult : Prop :=
  ∀ i s, i.mnemonic = .SBC → ∃ t, exec i s = .next t ∧
    { t with a := s.a, sr := s.sr } = passed i 0 s ∧
    t.a.toNat = (s.a.toNat + (255 - (operandByte i s).toNat) + bit (s.flag .C)) % 256 ∧
    ∀ f, t.flag f = match f with
      | .C => decide (255 < s.a.toNat + (255 - (operandByte i s).toNat) + bit (s.flag .C))
      | .V => decide (s.a.msb ≠ t.a.msb ∧ s.a.msb ≠ (operandByte i s).msb)
      | f => znFlags s t.a f

/-- R184: after ADC and SBC, V = 1 exactly when the two's-complement result lies outside -128..127
(the spec derives this from R171 and R172). -/
def Obligations.OverflowIsSignedRange : Prop :=
  ∀ (s : State) (v : Byte),
    ((s.adc v).flag .V = true ↔
      s.a.toInt + v.toInt + (bit (s.flag .C) : Int) < -128 ∨
      127 < s.a.toInt + v.toInt + (bit (s.flag .C) : Int)) ∧
    ((s.sbc v).flag .V = true ↔
      s.a.toInt - v.toInt - (1 - (bit (s.flag .C) : Int)) < -128 ∨
      127 < s.a.toInt - v.toInt - (1 - (bit (s.flag .C) : Int)))

/-- R170: SR.D changes no result of ADC or SBC. -/
def Obligations.DecimalFlagIsInert : Prop :=
  ∀ (i : Instr) (s : State) (b : Bool), i.mnemonic = .ADC ∨ i.mnemonic = .SBC →
    ∃ t, exec i s = .next t ∧ exec i (s.setFlag .D b) = .next (t.setFlag .D b)

/-- R177, R178, R179: A becomes A and, or, exclusive-or the operand byte; Z and N follow it. -/
def Obligations.LogicResults : Prop :=
  setsA .AND (fun i s => s.a &&& operandByte i s) ∧
  setsA .ORA (fun i s => s.a ||| operandByte i s) ∧
  setsA .EOR (fun i s => s.a ^^^ operandByte i s)

/-- R173, R180, R181, R182: C is the unsigned register >= operand, Z equality, N bit 7 of the
difference; the register and V do not change. -/
def Obligations.CompareResults : Prop :=
  compares .CMP (fun s => s.a) ∧ compares .CPX (fun s => s.x) ∧
  compares .CPY (fun s => s.y)

/-- R174, R183: Z from A and M, N and V from bits 7 and 6 of M; A and C do not change. -/
def Obligations.BitTestResult : Prop :=
  ∀ i s, i.mnemonic = .BIT → ∃ t, exec i s = .next t ∧
    { t with sr := s.sr } = passed i 0 s ∧
    ∀ f, t.flag f = match f with
      | .Z => decide (s.a &&& operandByte i s = 0#8)
      | .N => decide (128 ≤ (operandByte i s).toNat)
      | .V => decide (64 ≤ (operandByte i s).toNat % 128)
      | f => s.flag f

/-! ## Shifts, rotates, increments and decrements (44_shift_incdec.md) -/

/-- R201 to R204: the four shifts and rotates, on A or on memory. -/
def Obligations.ShiftResults : Prop :=
  shifts .ASL (fun m _ => m * 2 % 256) (fun m => decide (128 ≤ m)) ∧
  shifts .LSR (fun m _ => m / 2) (fun m => decide (m % 2 = 1)) ∧
  shifts .ROL (fun m c => (m * 2 + bit c) % 256) (fun m => decide (128 ≤ m)) ∧
  shifts .ROR (fun m c => m / 2 + bit c * 128) (fun m => decide (m % 2 = 1))

/-- R205, R206: INC and DEC of memory, mod 256; Z and N follow, C does not change. -/
def Obligations.MemoryStepResults : Prop :=
  updatesMemory .INC (fun m => BitVec.ofNat 8 ((m.toNat + 1) % 256)) ∧
  updatesMemory .DEC (fun m => BitVec.ofNat 8 ((m.toNat + 255) % 256))

/-- R207 to R210: INX, INY, DEX, DEY, mod 256; Z and N follow, C does not change. -/
def Obligations.IndexStepResults : Prop :=
  setsX .INX (fun _ s => BitVec.ofNat 8 ((s.x.toNat + 1) % 256)) ∧
  setsY .INY (fun _ s => BitVec.ofNat 8 ((s.y.toNat + 1) % 256)) ∧
  setsX .DEX (fun _ s => BitVec.ofNat 8 ((s.x.toNat + 255) % 256)) ∧
  setsY .DEY (fun _ s => BitVec.ofNat 8 ((s.y.toNat + 255) % 256))

/-! ## Jumps, subroutines and branches (45_control.md) -/

/-- R231: JMP replaces PC with the resolved address and changes nothing else but CYC. -/
def Obligations.JumpResult : Prop :=
  ∀ i s, i.mnemonic = .JMP →
    exec i s = .next { passed i 0 s with pc := (resolvedOf i s).ea }

/-- R232: JSR pushes the address of its last byte, high byte then low byte, and jumps (the cells'
addresses by the spec's decision D2). -/
def Obligations.SubroutineCallResult : Prop :=
  ∀ (w : Word) (s : State), ∃ t, exec (.jsr w) s = .next t ∧
    { t with mem := s.mem, sp := s.sp } = { passed (.jsr w) 0 s with pc := w } ∧
    t.sp = s.sp - 2#8 ∧
    ∀ k, t.readByte k =
      if k = 0x0100#16 + zext16 s.sp then hi (s.pc + 2#16)
      else if k = 0x0100#16 + zext16 (s.sp - 1#8) then lo (s.pc + 2#16) else s.readByte k

/-- R233: RTS pops low then high and sets PC to the word plus one (the cells by D2). -/
def Obligations.SubroutineReturnResult : Prop :=
  ∀ s, exec .rts s = .next { passed .rts 0 s with
    sp := s.sp + 2#8
    pc := word (s.readByte (0x0100#16 + zext16 (s.sp + 2#8)))
      (s.readByte (0x0100#16 + zext16 (s.sp + 1#8))) + 1#16 }

/-- R230, R234 to R241: each branch tests one flag; taken, it goes to the target for one extra
cycle, two across a page; no flag changes. -/
def Obligations.BranchResults : Prop :=
  branches .BCC (fun s => !s.flag .C) ∧ branches .BCS (fun s => s.flag .C) ∧
  branches .BEQ (fun s => s.flag .Z) ∧ branches .BMI (fun s => s.flag .N) ∧
  branches .BNE (fun s => !s.flag .Z) ∧ branches .BPL (fun s => !s.flag .N) ∧
  branches .BVC (fun s => !s.flag .V) ∧ branches .BVS (fun s => s.flag .V)

/-! ## Stack, flag and no-operation instructions (46_stack_flags_misc.md) -/

/-- R261, R262: PHA pushes A and PHP pushes SR with Break and Unused set (D5), at 0x0100 + SP (D2);
no flag changes. -/
def Obligations.PushResults : Prop :=
  ∀ s,
    (∃ t, exec .pha s = .next t ∧ { t with mem := s.mem, sp := s.sp } = passed .pha 0 s ∧
      t.sp = s.sp - 1#8 ∧ storedAt s t (0x0100#16 + zext16 s.sp) s.a) ∧
    (∃ t, exec .php s = .next t ∧ { t with mem := s.mem, sp := s.sp } = passed .php 0 s ∧
      t.sp = s.sp - 1#8 ∧ storedAt s t (0x0100#16 + zext16 s.sp) (s.sr ||| 0x30#8))

/-- R263, R264: PLA pulls A with Z and N; PLP pulls all of SR, Unused forced to 1 and Break as
popped (D6); both raise SP and read the cell it then names (D2). -/
def Obligations.PullResults : Prop :=
  ∀ s,
    (∃ t, exec .pla s = .next t ∧
      { t with a := s.a, sp := s.sp, sr := s.sr } = passed .pla 0 s ∧
      t.sp = s.sp + 1#8 ∧ t.a = s.readByte (0x0100#16 + zext16 (s.sp + 1#8)) ∧
      ∀ f, t.flag f = znFlags s t.a f) ∧
    (∃ t, exec .plp s = .next t ∧ { t with sp := s.sp, sr := s.sr } = passed .plp 0 s ∧
      t.sp = s.sp + 1#8 ∧ t.sr = s.readByte (0x0100#16 + zext16 (s.sp + 1#8)) ||| 0x20#8)

/-- R265 to R271: each flag instruction writes its one flag and nothing else. -/
def Obligations.FlagInstructionResults : Prop :=
  writesFlag .clc .C false ∧ writesFlag .cld .D false ∧ writesFlag .cli .I false ∧
  writesFlag .clv .V false ∧ writesFlag .sec .C true ∧ writesFlag .sed .D true ∧
  writesFlag .sei .I true

/-- R272: NOP changes PC and CYC alone. -/
def Obligations.NopResult : Prop :=
  ∀ s, exec .nop s = .next { s with pc := s.pc + 1#16, cyc := s.cyc + baseCycles 0xEA#8 }

/-! ## Interrupts (47_interrupt_instr.md, 60_exceptions.md) -/

/-- R290, R292: BRK pushes its address plus 2 and SR with Break and Unused set, sets I, and loads PC
from 0xFFFE; SR.B and SR.D do not change (D7; the frame's cells by D2). -/
def Obligations.BreakResult : Prop :=
  ∀ s, ∃ t, exec .brk s = .next t ∧
    framePushed s t (s.pc + 2#16) (s.sr ||| 0x30#8) ∧
    (∀ f, t.flag f = if f = .I then true else s.flag f) ∧ t.pc = s.readWord 0xFFFE#16 ∧
    { t with mem := s.mem, sp := s.sp, sr := s.sr, pc := s.pc } =
      { s with cyc := s.cyc + baseCycles 0x00#8 }

/-- R293: RTI restores SR with Unused forced to 1, then PC with no +1 (the cells by D2). -/
def Obligations.ReturnFromInterruptResult : Prop :=
  ∀ s, exec .rti s = .next { s with
    sp  := s.sp + 3#8
    sr  := s.readByte (0x0100#16 + zext16 (s.sp + 1#8)) ||| 0x20#8
    pc  := word (s.readByte (0x0100#16 + zext16 (s.sp + 3#8)))
      (s.readByte (0x0100#16 + zext16 (s.sp + 2#8)))
    cyc := s.cyc + baseCycles 0x40#8 }

/-- The returns undo their entries: an RTS in the state a JSR left, at any PC, resumes after the JSR
with SP restored (R232, R233); an RTI in the state a BRK left resumes two bytes after the BRK with SP
and every flag restored but Break, which is 1 (R290, R293). -/
def Obligations.ReturnsResume : Prop :=
  (∀ (w p : Word) (s t : State), exec (.jsr w) s = .next t →
    ∃ u, exec .rts { t with pc := p } = .next u ∧ u.pc = s.pc + 3#16 ∧ u.sp = s.sp) ∧
  ∀ (p : Word) (s t : State), exec .brk s = .next t →
    ∃ u, exec .rti { t with pc := p } = .next u ∧ u.pc = s.pc + 2#16 ∧ u.sp = s.sp ∧
      ∀ f, u.flag f = if f = .B ∨ f = .U then true else s.flag f

/-- R300, R301: irq() is nothing when I is set; else it pushes PC and SR with Break clear, sets I,
loads PC from 0xFFFE and charges 7 cycles (SR.B, SR.D unchanged by D7; the cells by D2). -/
def Obligations.IrqEntry : Prop :=
  ∀ s, (s.flag .I = true → hostIrq s = s) ∧
    (s.flag .I = false →
      framePushed s (hostIrq s) s.pc ((s.sr &&& 0xEF#8) ||| 0x20#8) ∧
      (∀ f, (hostIrq s).flag f = if f = .I then true else s.flag f) ∧
      (hostIrq s).pc = s.readWord 0xFFFE#16 ∧
      { hostIrq s with mem := s.mem, sp := s.sp, sr := s.sr, pc := s.pc } =
        { s with cyc := s.cyc + 7 })

/-- R302: nmi() is taken whatever I holds, through 0xFFFA, for 8 cycles. -/
def Obligations.NmiEntry : Prop :=
  ∀ s, framePushed s (hostNmi s) s.pc ((s.sr &&& 0xEF#8) ||| 0x20#8) ∧
    (∀ f, (hostNmi s).flag f = if f = .I then true else s.flag f) ∧
    (hostNmi s).pc = s.readWord 0xFFFA#16 ∧
    { hostNmi s with mem := s.mem, sp := s.sp, sr := s.sr, pc := s.pc } =
      { s with cyc := s.cyc + 8 }

/-- R124: an empty slot advances PC by 1, appends its record to DIAG, charges 2 cycles and changes
nothing else. DIAG and its record (R33) are the spec's decision D12 (log entry 9). -/
def Obligations.UnimplementedResult : Prop :=
  ∀ (op : Byte) (s : State), exec (.unimplemented op) s =
    .next { s with pc := s.pc + 1#16, cyc := s.cyc + 2, diag := s.diag ++ [⟨op, s.pc⟩] }

/-! ## Reset and the host's operations (70_reset_and_hazards.md, 41_dispatch.md) -/

/-- R340, R36: what reset() leaves from any state; memory and DIAG are kept. By the spec's decisions:
A, X, Y, C, Z, V, N (D3), memory unchanged (D4), DIAG unchanged (D12; log entry 9). -/
def Obligations.HostResetResult : Prop :=
  ∀ s, (hostReset s).sp = 0xFD#8 ∧ (hostReset s).flag .I = true ∧ (hostReset s).flag .U = true ∧
    (∀ f, f ≠ .I → f ≠ .U → (hostReset s).flag f = false) ∧ (hostReset s).cyc = 0 ∧
    (hostReset s).pc.toNat =
      256 * (s.readByte 0xFFFD#16).toNat + (s.readByte 0xFFFC#16).toNat ∧
    (hostReset s).a = 0#8 ∧ (hostReset s).x = 0#8 ∧ (hostReset s).y = 0#8 ∧
    (hostReset s).mem = s.mem ∧ (hostReset s).diag = s.diag

/-- R341, R36: the machine's reset state is the constructed core, reset (D3, D4). -/
def Obligations.ResetState : Prop :=
  State.reset = construct ∧ State.reset.a = 0x00#8 ∧ State.reset.x = 0x00#8 ∧
  State.reset.y = 0x00#8 ∧ State.reset.sp = 0xFD#8 ∧ State.reset.sr = 0x24#8 ∧
  State.reset.pc = 0x0000#16 ∧ State.reset.cyc = 0 ∧ State.reset.diag = [] ∧
  ∀ k, State.reset.readByte k = 0x00#8

/-- R66, R67: loadProgram stores its bytes, masked, in order from start mod 65536 on, a later byte
over an earlier one at the same address, and changes no register; getMemory reads one byte and
setMemory writes one and nothing else, at masked addresses. -/
def Obligations.HostMemoryOperations : Prop :=
  (∀ (bytes : List Nat) (b start : Nat) (s : State),
    hostLoadProgram [] start s = s ∧
    hostLoadProgram (bytes ++ [b]) start s =
      (hostLoadProgram bytes start s).writeByte
        (BitVec.ofNat 16 ((start + bytes.length) % 65536)) (BitVec.ofNat 8 (b % 256)) ∧
    { hostLoadProgram bytes start s with mem := s.mem } = s) ∧
  ∀ (addr other byte : Nat) (s : State),
    hostGetMemory other s = s.readByte (BitVec.ofNat 16 (other % 65536)) ∧
    hostGetMemory other (hostSetMemory addr byte s) =
      (if other % 65536 = addr % 65536 then BitVec.ofNat 8 (byte % 256)
       else hostGetMemory other s) ∧
    { hostSetMemory addr byte s with mem := s.mem } = s

/-- R125: run(n) is n steps: run(0) changes nothing, and running m + n is running m, then n. -/
def Obligations.RunIsSteps : Prop :=
  ∀ (m n : Nat) (s : State), hostRun 0 s = .next s ∧ hostRun 1 s = step s ∧
    ∃ t u, hostRun m s = .next t ∧ hostRun n t = .next u ∧ hostRun (m + n) s = .next u

/-! ## Frames -/

/-- R21, R22, R23: which instructions may change A, X, Y and SP; no other does. -/
def Obligations.RegisterFrame : Prop :=
  ∀ (i : Instr) (s t : State), exec i s = .next t →
    (i.mnemonic ∉ [.LDA, .TXA, .TYA, .PLA, .ADC, .SBC, .AND, .ORA, .EOR] →
      i.operand ≠ .accumulator → t.a = s.a) ∧
    (i.mnemonic ∉ [.LDX, .TAX, .TSX, .INX, .DEX] → t.x = s.x) ∧
    (i.mnemonic ∉ [.LDY, .TAY, .INY, .DEY] → t.y = s.y) ∧
    (i.mnemonic ∉ [.TXS, .PHA, .PHP, .PLA, .PLP, .JSR, .RTS, .BRK, .RTI] → t.sp = s.sp)

/-- R34: which instructions may change each flag; no other does. -/
def Obligations.FlagFrame : Prop :=
  ∀ (i : Instr) (s t : State), exec i s = .next t → i.mnemonic ∉ [.PLP, .RTI] →
    (i.mnemonic ∉ [.ADC, .SBC, .CMP, .CPX, .CPY, .ASL, .LSR, .ROL, .ROR, .CLC, .SEC] →
      t.flag .C = s.flag .C) ∧
    (i.mnemonic ∉ [.LDA, .LDX, .LDY, .TAX, .TAY, .TXA, .TYA, .TSX, .PLA, .AND, .ORA, .EOR,
        .ADC, .SBC, .CMP, .CPX, .CPY, .BIT, .ASL, .LSR, .ROL, .ROR, .INC, .DEC,
        .INX, .INY, .DEX, .DEY] →
      t.flag .Z = s.flag .Z ∧ t.flag .N = s.flag .N) ∧
    (i.mnemonic ∉ [.SEI, .CLI, .BRK] → t.flag .I = s.flag .I) ∧
    (i.mnemonic ∉ [.SED, .CLD] → t.flag .D = s.flag .D) ∧
    (i.mnemonic ∉ [.ADC, .SBC, .BIT, .CLV] → t.flag .V = s.flag .V) ∧
    t.flag .B = s.flag .B ∧ t.flag .U = s.flag .U

/-- R62: instructions and forms that store nothing leave every byte of memory as it was; the storing
instructions change no byte but those they store to: the byte at the effective address, or the stack
cells they push to (R58, R60, R292). -/
def Obligations.MemoryFrame : Prop :=
  ∀ (i : Instr) (s t : State), exec i s = .next t →
    (i.mnemonic ∉ [.STA, .STX, .STY, .ASL, .LSR, .ROL, .ROR, .INC, .DEC, .PHA, .PHP, .JSR, .BRK] ∨
        i.operand = .accumulator →
      ∀ k, t.readByte k = s.readByte k) ∧
    (i.mnemonic ∈ [.STA, .STX, .STY, .ASL, .LSR, .ROL, .ROR, .INC, .DEC] →
      ∀ k, k ≠ (resolvedOf i s).ea → t.readByte k = s.readByte k) ∧
    (i.mnemonic ∈ [.PHA, .PHP] → ∀ k, k ≠ stackAddr s.sp → t.readByte k = s.readByte k) ∧
    (i.mnemonic = .JSR → ∀ k, k ≠ stackAddr s.sp → k ≠ stackAddr (s.sp - 1#8) →
      t.readByte k = s.readByte k) ∧
    (i.mnemonic = .BRK → ∀ k, k ≠ stackAddr s.sp → k ≠ stackAddr (s.sp - 1#8) →
      k ≠ stackAddr (s.sp - 2#8) → t.readByte k = s.readByte k)

/-- R126: only JMP, JSR, RTS, the branches, BRK and RTI leave PC elsewhere than at the next
instruction. -/
def Obligations.ProgramCounterFrame : Prop :=
  ∀ (i : Instr) (s t : State), exec i s = .next t →
    i.mnemonic ∉ [.JMP, .JSR, .RTS, .BCC, .BCS, .BEQ, .BMI, .BNE, .BPL, .BVC, .BVS, .BRK, .RTI] →
    t.pc = nextPC i s

/-- R33: DIAG only grows, by one record for each step that meets an empty slot and by none for any
other. -/
def Obligations.DiagnosticLogGrows : Prop :=
  ∀ s t : State, step s = .next t →
    t.diag = if isEmptySlot (s.readByte s.pc) then s.diag ++ [⟨s.readByte s.pc, s.pc⟩] else s.diag

/-! ## Invariants -/

/-- From every state with the invariant (canonical memory, Unused bit 1), a step leads to one. -/
def Obligations.StepKeepsInvariant : Prop :=
  ∀ s t : State, s.Inv → step s = .next t → t.Inv

/-- The reset state has the invariant. -/
def Obligations.ResetHasInvariant : Prop := State.reset.Inv

/-- Every host operation keeps the invariant, so every state a host can bring the core into has
it. -/
def Obligations.ReachableStatesHaveInvariant : Prop :=
  (∀ (c : HostCall) (s t : State), s.Inv → hostCall c s = .next t → t.Inv) ∧
  ∀ s : State, Reachable s → s.Inv
end

