-- ==== Sys2Proof/Laws/Bits.lean ====
section
/-! SUPPORT. The laws of the bit-field helpers, as natural numbers. -/

namespace Sys2Proof.Machine

open Sys2Proof

theorem lo_toNat (w : Word) : (lo w).toNat = w.toNat % 256 := by
  simp [lo, BitVec.extractLsb'_toNat]

theorem hi_toNat (w : Word) : (hi w).toNat = w.toNat / 256 := by
  have := w.isLt
  simp only [hi, BitVec.extractLsb'_toNat, Nat.shiftRight_eq_div_pow]
  omega

theorem word_toNat (h l : Byte) : (word h l).toNat = 256 * h.toNat + l.toNat := by
  have := l.isLt
  rw [word, BitVec.toNat_append, Nat.shiftLeft_eq, ← Nat.mul_comm (2 ^ 8),
    ← Nat.two_pow_add_eq_or_of_lt l.isLt]

theorem zext16_toNat (b : Byte) : (zext16 b).toNat = b.toNat := by
  have := b.isLt
  simp only [zext16, BitVec.toNat_setWidth]
  omega

theorem zext16_inj {b c : Byte} : zext16 b = zext16 c ↔ b = c := by
  rw [← BitVec.toNat_inj, zext16_toNat, zext16_toNat, BitVec.toNat_inj]

theorem sext16_toNat (b : Byte) :
    (sext16 b).toNat = if b.toNat < 128 then b.toNat else b.toNat + 0xFF00 := by
  have := b.isLt
  rw [sext16, BitVec.toNat_signExtend, BitVec.msb_eq_decide]
  simp only [BitVec.toNat_setWidth]
  split <;> split <;> simp_all <;> omega

@[simp] theorem word_hi_lo (w : Word) : word (hi w) (lo w) = w := by
  have := w.isLt
  apply BitVec.eq_of_toNat_eq
  rw [word_toNat, hi_toNat, lo_toNat]
  omega

@[simp] theorem hi_word (h l : Byte) : hi (word h l) = h := by
  have := l.isLt
  apply BitVec.eq_of_toNat_eq
  rw [hi_toNat, word_toNat]
  omega

@[simp] theorem lo_word (h l : Byte) : lo (word h l) = l := by
  have := l.isLt
  apply BitVec.eq_of_toNat_eq
  rw [lo_toNat, word_toNat]
  omega

/-- A claim about every byte is 256 claims. -/
theorem byte_cases {P : Byte → Prop} (h : ∀ n < 256, P (BitVec.ofNat 8 n)) (b : Byte) : P b := by
  have hb := h b.toNat b.isLt
  rwa [BitVec.ofNat_toNat, BitVec.setWidth_eq] at hb

end Sys2Proof.Machine
end

