-- ==== Sys2Proof/Laws/Decode.lean ====
section
/-! SUPPORT. What the decoder reads: the operand bytes of the instruction it answers are the bytes
after the opcode (30_encoding.md R81). -/

namespace Sys2Proof

open Sys2Proof.Machine

/-- The operand bytes of the decoded instruction are the bytes after the opcode, as many as the mode
has. -/
theorem decodeBytes_operandBytes (op b1 b2 : Byte) :
    operandBytes (decodeBytes op b1 b2).operand =
      [b1, b2].take (operandWidth (decodeBytes op b1 b2).operand) := by
  refine byte_cases (P := fun op => operandBytes (decodeBytes op b1 b2).operand =
    [b1, b2].take (operandWidth (decodeBytes op b1 b2).operand)) ?_ op
  intro n hn
  interval_cases n
  all_goals first
    | exact rfl
    | (show [lo (word b2 b1), hi (word b2 b1)] = [b1, b2]; rw [hi_word, lo_word])

end Sys2Proof
end

