-- ==== Sys2Proof/Laws/State.lean ====
section
/-! SUPPORT. One lemma per field per named update of State, true by rfl, so that no later proof
unfolds a record update. -/

namespace Sys2Proof.Machine

open Sys2Proof

@[simp] theorem State.setFlag_a (s : State) (f : Flag) (b : Bool) : (s.setFlag f b).a = s.a := rfl
@[simp] theorem State.setFlag_x (s : State) (f : Flag) (b : Bool) : (s.setFlag f b).x = s.x := rfl
@[simp] theorem State.setFlag_y (s : State) (f : Flag) (b : Bool) : (s.setFlag f b).y = s.y := rfl
@[simp] theorem State.setFlag_sp (s : State) (f : Flag) (b : Bool) : (s.setFlag f b).sp = s.sp := rfl
@[simp] theorem State.setFlag_sr (s : State) (f : Flag) (b : Bool) : (s.setFlag f b).sr = putFlag f b s.sr := rfl
@[simp] theorem State.setFlag_pc (s : State) (f : Flag) (b : Bool) : (s.setFlag f b).pc = s.pc := rfl
@[simp] theorem State.setFlag_cyc (s : State) (f : Flag) (b : Bool) : (s.setFlag f b).cyc = s.cyc := rfl
@[simp] theorem State.setFlag_mem (s : State) (f : Flag) (b : Bool) : (s.setFlag f b).mem = s.mem := rfl
@[simp] theorem State.setFlag_diag (s : State) (f : Flag) (b : Bool) : (s.setFlag f b).diag = s.diag := rfl

@[simp] theorem State.setZN_a (s : State) (v : Byte) : (s.setZN v).a = s.a := rfl
@[simp] theorem State.setZN_x (s : State) (v : Byte) : (s.setZN v).x = s.x := rfl
@[simp] theorem State.setZN_y (s : State) (v : Byte) : (s.setZN v).y = s.y := rfl
@[simp] theorem State.setZN_sp (s : State) (v : Byte) : (s.setZN v).sp = s.sp := rfl
@[simp] theorem State.setZN_sr (s : State) (v : Byte) : (s.setZN v).sr = putFlag .N v.msb (putFlag .Z (v == 0#8) s.sr) := rfl
@[simp] theorem State.setZN_pc (s : State) (v : Byte) : (s.setZN v).pc = s.pc := rfl
@[simp] theorem State.setZN_cyc (s : State) (v : Byte) : (s.setZN v).cyc = s.cyc := rfl
@[simp] theorem State.setZN_mem (s : State) (v : Byte) : (s.setZN v).mem = s.mem := rfl
@[simp] theorem State.setZN_diag (s : State) (v : Byte) : (s.setZN v).diag = s.diag := rfl

@[simp] theorem State.writeStatus_a (s : State) (b : Byte) : (s.writeStatus b).a = s.a := rfl
@[simp] theorem State.writeStatus_x (s : State) (b : Byte) : (s.writeStatus b).x = s.x := rfl
@[simp] theorem State.writeStatus_y (s : State) (b : Byte) : (s.writeStatus b).y = s.y := rfl
@[simp] theorem State.writeStatus_sp (s : State) (b : Byte) : (s.writeStatus b).sp = s.sp := rfl
@[simp] theorem State.writeStatus_sr (s : State) (b : Byte) : (s.writeStatus b).sr = b ||| 0x20#8 := rfl
@[simp] theorem State.writeStatus_pc (s : State) (b : Byte) : (s.writeStatus b).pc = s.pc := rfl
@[simp] theorem State.writeStatus_cyc (s : State) (b : Byte) : (s.writeStatus b).cyc = s.cyc := rfl
@[simp] theorem State.writeStatus_mem (s : State) (b : Byte) : (s.writeStatus b).mem = s.mem := rfl
@[simp] theorem State.writeStatus_diag (s : State) (b : Byte) : (s.writeStatus b).diag = s.diag := rfl

@[simp] theorem State.adc_a (s : State) (v : Byte) : (s.adc v).a = BitVec.ofNat 8 (s.a.toNat + v.toNat + bit (s.flag .C)) := rfl
@[simp] theorem State.adc_x (s : State) (v : Byte) : (s.adc v).x = s.x := rfl
@[simp] theorem State.adc_y (s : State) (v : Byte) : (s.adc v).y = s.y := rfl
@[simp] theorem State.adc_sp (s : State) (v : Byte) : (s.adc v).sp = s.sp := rfl
@[simp] theorem State.adc_pc (s : State) (v : Byte) : (s.adc v).pc = s.pc := rfl
@[simp] theorem State.adc_cyc (s : State) (v : Byte) : (s.adc v).cyc = s.cyc := rfl
@[simp] theorem State.adc_mem (s : State) (v : Byte) : (s.adc v).mem = s.mem := rfl
@[simp] theorem State.adc_diag (s : State) (v : Byte) : (s.adc v).diag = s.diag := rfl

@[simp] theorem State.sbc_a (s : State) (v : Byte) : (s.sbc v).a = BitVec.ofNat 8 (s.a.toNat + (~~~v).toNat + bit (s.flag .C)) := rfl
@[simp] theorem State.sbc_x (s : State) (v : Byte) : (s.sbc v).x = s.x := rfl
@[simp] theorem State.sbc_y (s : State) (v : Byte) : (s.sbc v).y = s.y := rfl
@[simp] theorem State.sbc_sp (s : State) (v : Byte) : (s.sbc v).sp = s.sp := rfl
@[simp] theorem State.sbc_pc (s : State) (v : Byte) : (s.sbc v).pc = s.pc := rfl
@[simp] theorem State.sbc_cyc (s : State) (v : Byte) : (s.sbc v).cyc = s.cyc := rfl
@[simp] theorem State.sbc_mem (s : State) (v : Byte) : (s.sbc v).mem = s.mem := rfl
@[simp] theorem State.sbc_diag (s : State) (v : Byte) : (s.sbc v).diag = s.diag := rfl

@[simp] theorem State.compare_a (s : State) (reg v : Byte) : (s.compare reg v).a = s.a := rfl
@[simp] theorem State.compare_x (s : State) (reg v : Byte) : (s.compare reg v).x = s.x := rfl
@[simp] theorem State.compare_y (s : State) (reg v : Byte) : (s.compare reg v).y = s.y := rfl
@[simp] theorem State.compare_sp (s : State) (reg v : Byte) : (s.compare reg v).sp = s.sp := rfl
@[simp] theorem State.compare_pc (s : State) (reg v : Byte) : (s.compare reg v).pc = s.pc := rfl
@[simp] theorem State.compare_cyc (s : State) (reg v : Byte) : (s.compare reg v).cyc = s.cyc := rfl
@[simp] theorem State.compare_mem (s : State) (reg v : Byte) : (s.compare reg v).mem = s.mem := rfl
@[simp] theorem State.compare_diag (s : State) (reg v : Byte) : (s.compare reg v).diag = s.diag := rfl

@[simp] theorem State.bitTest_a (s : State) (m : Byte) : (s.bitTest m).a = s.a := rfl
@[simp] theorem State.bitTest_x (s : State) (m : Byte) : (s.bitTest m).x = s.x := rfl
@[simp] theorem State.bitTest_y (s : State) (m : Byte) : (s.bitTest m).y = s.y := rfl
@[simp] theorem State.bitTest_sp (s : State) (m : Byte) : (s.bitTest m).sp = s.sp := rfl
@[simp] theorem State.bitTest_pc (s : State) (m : Byte) : (s.bitTest m).pc = s.pc := rfl
@[simp] theorem State.bitTest_cyc (s : State) (m : Byte) : (s.bitTest m).cyc = s.cyc := rfl
@[simp] theorem State.bitTest_mem (s : State) (m : Byte) : (s.bitTest m).mem = s.mem := rfl
@[simp] theorem State.bitTest_diag (s : State) (m : Byte) : (s.bitTest m).diag = s.diag := rfl

@[simp] theorem State.writeByte_a (s : State) (k : Word) (v : Byte) : (s.writeByte k v).a = s.a := rfl
@[simp] theorem State.writeByte_x (s : State) (k : Word) (v : Byte) : (s.writeByte k v).x = s.x := rfl
@[simp] theorem State.writeByte_y (s : State) (k : Word) (v : Byte) : (s.writeByte k v).y = s.y := rfl
@[simp] theorem State.writeByte_sp (s : State) (k : Word) (v : Byte) : (s.writeByte k v).sp = s.sp := rfl
@[simp] theorem State.writeByte_sr (s : State) (k : Word) (v : Byte) : (s.writeByte k v).sr = s.sr := rfl
@[simp] theorem State.writeByte_pc (s : State) (k : Word) (v : Byte) : (s.writeByte k v).pc = s.pc := rfl
@[simp] theorem State.writeByte_cyc (s : State) (k : Word) (v : Byte) : (s.writeByte k v).cyc = s.cyc := rfl
@[simp] theorem State.writeByte_mem (s : State) (k : Word) (v : Byte) : (s.writeByte k v).mem = Memory.write s.mem k.toNat v := rfl
@[simp] theorem State.writeByte_diag (s : State) (k : Word) (v : Byte) : (s.writeByte k v).diag = s.diag := rfl

@[simp] theorem State.push8_a (s : State) (v : Byte) : (s.push8 v).a = s.a := rfl
@[simp] theorem State.push8_x (s : State) (v : Byte) : (s.push8 v).x = s.x := rfl
@[simp] theorem State.push8_y (s : State) (v : Byte) : (s.push8 v).y = s.y := rfl
@[simp] theorem State.push8_sp (s : State) (v : Byte) : (s.push8 v).sp = s.sp - 1#8 := rfl
@[simp] theorem State.push8_sr (s : State) (v : Byte) : (s.push8 v).sr = s.sr := rfl
@[simp] theorem State.push8_pc (s : State) (v : Byte) : (s.push8 v).pc = s.pc := rfl
@[simp] theorem State.push8_cyc (s : State) (v : Byte) : (s.push8 v).cyc = s.cyc := rfl
@[simp] theorem State.push8_mem (s : State) (v : Byte) : (s.push8 v).mem = Memory.write s.mem (stackAddr s.sp).toNat v := rfl
@[simp] theorem State.push8_diag (s : State) (v : Byte) : (s.push8 v).diag = s.diag := rfl

@[simp] theorem State.popped_a (s : State) : (s.popped).a = s.a := rfl
@[simp] theorem State.popped_x (s : State) : (s.popped).x = s.x := rfl
@[simp] theorem State.popped_y (s : State) : (s.popped).y = s.y := rfl
@[simp] theorem State.popped_sp (s : State) : (s.popped).sp = s.sp + 1#8 := rfl
@[simp] theorem State.popped_sr (s : State) : (s.popped).sr = s.sr := rfl
@[simp] theorem State.popped_pc (s : State) : (s.popped).pc = s.pc := rfl
@[simp] theorem State.popped_cyc (s : State) : (s.popped).cyc = s.cyc := rfl
@[simp] theorem State.popped_mem (s : State) : (s.popped).mem = s.mem := rfl
@[simp] theorem State.popped_diag (s : State) : (s.popped).diag = s.diag := rfl

@[simp] theorem State.push16_a (s : State) (w : Word) : (s.push16 w).a = s.a := rfl
@[simp] theorem State.push16_x (s : State) (w : Word) : (s.push16 w).x = s.x := rfl
@[simp] theorem State.push16_y (s : State) (w : Word) : (s.push16 w).y = s.y := rfl
@[simp] theorem State.push16_sp (s : State) (w : Word) : (s.push16 w).sp = s.sp - 1#8 - 1#8 := rfl
@[simp] theorem State.push16_sr (s : State) (w : Word) : (s.push16 w).sr = s.sr := rfl
@[simp] theorem State.push16_pc (s : State) (w : Word) : (s.push16 w).pc = s.pc := rfl
@[simp] theorem State.push16_cyc (s : State) (w : Word) : (s.push16 w).cyc = s.cyc := rfl
@[simp] theorem State.push16_mem (s : State) (w : Word) : (s.push16 w).mem = Memory.write (Memory.write s.mem (stackAddr s.sp).toNat (hi w)) (stackAddr (s.sp - 1#8)).toNat (lo w) := rfl
@[simp] theorem State.push16_diag (s : State) (w : Word) : (s.push16 w).diag = s.diag := rfl

@[simp] theorem State.charge_a (s : State) (p : Params) (n : Nat) : (s.charge p n).a = s.a := rfl
@[simp] theorem State.charge_x (s : State) (p : Params) (n : Nat) : (s.charge p n).x = s.x := rfl
@[simp] theorem State.charge_y (s : State) (p : Params) (n : Nat) : (s.charge p n).y = s.y := rfl
@[simp] theorem State.charge_sp (s : State) (p : Params) (n : Nat) : (s.charge p n).sp = s.sp := rfl
@[simp] theorem State.charge_sr (s : State) (p : Params) (n : Nat) : (s.charge p n).sr = s.sr := rfl
@[simp] theorem State.charge_pc (s : State) (p : Params) (n : Nat) : (s.charge p n).pc = s.pc := rfl
@[simp] theorem State.charge_cyc (s : State) (p : Params) (n : Nat) : (s.charge p n).cyc = wrapCycles p.cycleWidth (s.cyc + n) := rfl
@[simp] theorem State.charge_mem (s : State) (p : Params) (n : Nat) : (s.charge p n).mem = s.mem := rfl
@[simp] theorem State.charge_diag (s : State) (p : Params) (n : Nat) : (s.charge p n).diag = s.diag := rfl

@[simp] theorem defaultParams_costs : defaultParams.costs = baseCycles := rfl
@[simp] theorem defaultParams_cycleWidth : defaultParams.cycleWidth = .unbounded := rfl
@[simp] theorem wrapCycles_unbounded (k : Nat) : wrapCycles .unbounded k = k := rfl
@[simp] theorem wrapCycles_bits (n k : Nat) : wrapCycles (.bits n) k = k % 2 ^ n := rfl

/-- At the default width a charge is a sum. -/
@[simp] theorem State.charge_default (s : State) (n : Nat) :
    s.charge defaultParams n = { s with cyc := s.cyc + n } := rfl

/-- A byte read depends on memory alone. -/
theorem State.readByte_of_mem (s t : State) (h : s.mem = t.mem) (k : Word) :
    s.readByte k = t.readByte k := by rw [State.readByte, State.readByte, h]

@[simp] theorem State.readByte_setFlag (s : State) (f : Flag) (b : Bool) (k : Word) :
    (s.setFlag f b).readByte k = s.readByte k := rfl

@[simp] theorem State.readByte_setZN (s : State) (v : Byte) (k : Word) :
    (s.setZN v).readByte k = s.readByte k := rfl

@[simp] theorem State.readByte_charge (s : State) (params : Params) (n : Nat) (k : Word) :
    (s.charge params n).readByte k = s.readByte k := rfl

@[simp] theorem State.flag_charge (s : State) (params : Params) (n : Nat) (f : Flag) :
    (s.charge params n).flag f = s.flag f := rfl

@[simp] theorem State.readByte_popped (s : State) (k : Word) : s.popped.readByte k = s.readByte k := rfl

@[simp] theorem State.readByte_writeStatus (s : State) (b : Byte) (k : Word) :
    (s.writeStatus b).readByte k = s.readByte k := rfl
@[simp] theorem State.enterInterrupt_a (s : State) (r : Word) (b : Byte) (v : Word) : (s.enterInterrupt r b v).a = s.a := by simp [State.enterInterrupt]
@[simp] theorem State.enterInterrupt_x (s : State) (r : Word) (b : Byte) (v : Word) : (s.enterInterrupt r b v).x = s.x := by simp [State.enterInterrupt]
@[simp] theorem State.enterInterrupt_y (s : State) (r : Word) (b : Byte) (v : Word) : (s.enterInterrupt r b v).y = s.y := by simp [State.enterInterrupt]
@[simp] theorem State.enterInterrupt_sp (s : State) (r : Word) (b : Byte) (v : Word) : (s.enterInterrupt r b v).sp = s.sp - 1#8 - 1#8 - 1#8 := by simp [State.enterInterrupt]
@[simp] theorem State.enterInterrupt_sr (s : State) (r : Word) (b : Byte) (v : Word) : (s.enterInterrupt r b v).sr = putFlag .I true s.sr := by simp [State.enterInterrupt]
@[simp] theorem State.enterInterrupt_pc (s : State) (r : Word) (b : Byte) (v : Word) : (s.enterInterrupt r b v).pc = ((s.push16 r).push8 b).readWord v := by simp [State.enterInterrupt, State.readWord]
@[simp] theorem State.enterInterrupt_cyc (s : State) (r : Word) (b : Byte) (v : Word) : (s.enterInterrupt r b v).cyc = s.cyc := by simp [State.enterInterrupt]
@[simp] theorem State.enterInterrupt_mem (s : State) (r : Word) (b : Byte) (v : Word) : (s.enterInterrupt r b v).mem = Memory.write (s.push16 r).mem (stackAddr (s.sp - 1#8 - 1#8)).toNat b := by simp [State.enterInterrupt]
@[simp] theorem State.enterInterrupt_diag (s : State) (r : Word) (b : Byte) (v : Word) : (s.enterInterrupt r b v).diag = s.diag := by simp [State.enterInterrupt]

@[simp] theorem State.returnFromInterrupt_a (s : State) : (s.returnFromInterrupt).a = s.a := by simp [State.returnFromInterrupt]
@[simp] theorem State.returnFromInterrupt_x (s : State) : (s.returnFromInterrupt).x = s.x := by simp [State.returnFromInterrupt]
@[simp] theorem State.returnFromInterrupt_y (s : State) : (s.returnFromInterrupt).y = s.y := by simp [State.returnFromInterrupt]
@[simp] theorem State.returnFromInterrupt_sp (s : State) : (s.returnFromInterrupt).sp = s.sp + 1#8 + 1#8 + 1#8 := by simp [State.returnFromInterrupt]
@[simp] theorem State.returnFromInterrupt_sr (s : State) : (s.returnFromInterrupt).sr = s.popByte ||| 0x20#8 := by simp [State.returnFromInterrupt]
@[simp] theorem State.returnFromInterrupt_pc (s : State) : (s.returnFromInterrupt).pc = s.popped.popWord := by simp [State.returnFromInterrupt, State.popWord, State.popByte]
@[simp] theorem State.returnFromInterrupt_cyc (s : State) : (s.returnFromInterrupt).cyc = s.cyc := by simp [State.returnFromInterrupt]
@[simp] theorem State.returnFromInterrupt_mem (s : State) : (s.returnFromInterrupt).mem = s.mem := by simp [State.returnFromInterrupt]
@[simp] theorem State.returnFromInterrupt_diag (s : State) : (s.returnFromInterrupt).diag = s.diag := by simp [State.returnFromInterrupt]

end Sys2Proof.Machine
end

