-- ==== Sys2Proof/Laws/Flags.lean ====
section
/-! SUPPORT. The laws of the status register: a flag written is the one read, and no other. -/

namespace Sys2Proof.Machine

open Sys2Proof

theorem flagBit_lt (f : Flag) : flagBit f < 8 := by cases f <;> decide

theorem flagBit_inj {f g : Flag} : flagBit f = flagBit g ↔ f = g := by
  constructor
  · cases f <;> cases g <;> decide
  · rintro rfl; rfl

theorem getFlag_mask (f g : Flag) : getFlag g (flagMask f) = decide (g = f) := by
  cases f <;> cases g <;> decide

/-- A flag after one flag is written (10_state.md R25): no other flag changes. -/
@[simp] theorem getFlag_putFlag (f g : Flag) (b : Bool) (sr : Byte) :
    getFlag g (putFlag f b sr) = if g = f then b else getFlag g sr := by
  have hm := getFlag_mask f g
  have hg := flagBit_lt g
  unfold getFlag at hm ⊢
  unfold putFlag
  cases b <;> by_cases h : g = f <;> simp_all

@[simp] theorem State.flag_setFlag (s : State) (f g : Flag) (b : Bool) :
    (s.setFlag f b).flag g = if g = f then b else s.flag g := getFlag_putFlag f g b s.sr

/-- A flag of a state written out is a flag of its status byte. -/
@[simp] theorem State.flag_mk (a x y sp sr : Byte) (pc : Word) (cyc : Nat) (mem : List Host.Cell)
    (diag : List DiagRecord) (f : Flag) :
    State.flag ⟨a, x, y, sp, sr, pc, cyc, mem, diag⟩ f = getFlag f sr := rfl

/-- The other direction: a flag of a state's status byte is a flag of the state. -/
theorem getFlag_sr (s : State) (f : Flag) : getFlag f s.sr = s.flag f := rfl

theorem State.flag_of_sr (s t : State) (h : s.sr = t.sr) (f : Flag) : s.flag f = t.flag f := by
  rw [State.flag, State.flag, h]

/-- The flags after `setZN` (R26). -/
@[simp] theorem State.flag_setZN (s : State) (v : Byte) (g : Flag) :
    (s.setZN v).flag g = if g = .N then v.msb else if g = .Z then v == 0#8 else s.flag g := by
  simp [State.setZN]

/-- The flags of an ORed status byte: those of the byte, and Unused. -/
theorem getFlag_or_unused (b : Byte) (g : Flag) :
    getFlag g (b ||| 0x20#8) = if g = .U then true else getFlag g b := by
  have h : (0x20#8 : Byte) = flagMask .U := rfl
  have := getFlag_putFlag .U g true b
  simpa [putFlag, h] using this

@[simp] theorem State.flag_writeStatus (s : State) (b : Byte) (g : Flag) :
    (s.writeStatus b).flag g = if g = .U then true else getFlag g b := getFlag_or_unused b g

/-- The sign bit, as the overflow rules mask it out (43_arith_logic.md R171, R172). -/
theorem and_signBit (x : Byte) : ((x &&& 0x80#8) != 0#8) = x.msb := by
  have h : ∀ x : Byte, ((x &&& 0x80#8) != 0#8) = x.msb := by decide
  exact h x

/-- The flags after `adc` (R171). -/
theorem State.flag_adc (s : State) (v : Byte) (f : Flag) :
    (s.adc v).flag f = match f with
      | .C => decide (s.a.toNat + v.toNat + bit (s.flag .C) > 255)
      | .V => decide (s.a.msb = v.msb ∧ s.a.msb ≠ (s.adc v).a.msb)
      | .Z => (s.adc v).a == 0#8
      | .N => (s.adc v).a.msb
      | f => s.flag f := by
  cases f <;> simp [State.adc, State.flag, and_signBit]
  cases s.a.msb <;> cases v.msb <;> simp

/-- The flags after `sbc` (R172). -/
theorem State.flag_sbc (s : State) (v : Byte) (f : Flag) :
    (s.sbc v).flag f = match f with
      | .C => decide (s.a.toNat + (~~~v).toNat + bit (s.flag .C) > 255)
      | .V => decide (s.a.msb ≠ (s.sbc v).a.msb ∧ s.a.msb ≠ v.msb)
      | .Z => (s.sbc v).a == 0#8
      | .N => (s.sbc v).a.msb
      | f => s.flag f := by
  cases f <;> simp [State.sbc, State.flag, and_signBit]
  cases s.a.msb <;> cases v.msb <;> simp

/-- The flags after `compare` (R173). -/
theorem State.flag_compare (s : State) (reg v : Byte) (f : Flag) :
    (s.compare reg v).flag f = match f with
      | .C => decide (v.toNat ≤ reg.toNat)
      | .Z => reg == v
      | .N => (reg - v).msb
      | f => s.flag f := by
  cases f <;> simp [State.compare]

/-- The flags after `bitTest` (R174). -/
theorem State.flag_bitTest (s : State) (m : Byte) (f : Flag) :
    (s.bitTest m).flag f = match f with
      | .Z => (s.a &&& m) == 0#8
      | .N => m.getLsbD 7
      | .V => m.getLsbD 6
      | f => s.flag f := by
  cases f <;> simp [State.bitTest]

end Sys2Proof.Machine
end

