-- ==== Sys2Proof/Laws/Memory.lean ====
section
/-! SUPPORT. The laws of memory: a read after a write, on any list of cells, and the canonical form
that every write keeps. -/

namespace Sys2Proof.Machine

open Sys2Proof

theorem Memory.read_erase (m : List Host.Cell) (k j : Nat) :
    Memory.read (Memory.erase m k) j = if j = k then Config.unlistedByte else Memory.read m j := by
  induction m with
  | nil => simp [Memory.erase, Memory.read]
  | cons c rest ih =>
    by_cases hk : c.1 = k
    · by_cases hj : j = k
      · subst hj
        simpa [Memory.erase, hk] using ih
      · simp [Memory.erase, Memory.read, hk, hj, ih, Ne.symm hj]
    · by_cases hc : c.1 = j
      · simp [Memory.erase, Memory.read, hc, show j ≠ k from hc ▸ hk]
      · simp [Memory.erase, Memory.read, hk, hc, ih]

theorem Memory.read_insert_same (m : List Host.Cell) (k : Nat) (v : Byte)
    (h : ∀ c ∈ m, c.1 ≠ k) : Memory.read (Memory.insert m k v) k = v := by
  induction m with
  | nil => simp [Memory.insert, Memory.read]
  | cons c rest ih =>
    have hc : c.1 ≠ k := h c (by simp)
    have hr := ih (fun d hd => h d (by simp [hd]))
    by_cases hlt : k < c.1 <;> simp [Memory.insert, Memory.read, hlt, hc, hr]

theorem Memory.read_insert_other (m : List Host.Cell) (k j : Nat) (v : Byte) (h : j ≠ k) :
    Memory.read (Memory.insert m k v) j = Memory.read m j := by
  induction m with
  | nil => simp [Memory.insert, Memory.read, Ne.symm h]
  | cons c rest ih =>
    by_cases hlt : k < c.1
    · simp [Memory.insert, Memory.read, hlt, Ne.symm h]
    · simp [Memory.insert, Memory.read, hlt, ih]

theorem Memory.not_mem_erase (m : List Host.Cell) (k : Nat) : ∀ c ∈ Memory.erase m k, c.1 ≠ k := by
  induction m with
  | nil => simp [Memory.erase]
  | cons c rest ih =>
    by_cases hk : c.1 = k
    · simpa [Memory.erase, hk] using ih
    · simpa [Memory.erase, hk] using ih

/-- What a read answers after a write, whatever the list: the value at its address, and what it was
everywhere else. -/
theorem Memory.read_write (m : List Host.Cell) (k j : Nat) (v : Byte) :
    Memory.read (Memory.write m k v) j = if j = k then v else Memory.read m j := by
  unfold Memory.write
  by_cases hv : v = Config.unlistedByte
  · simp [hv, Memory.read_erase]
  · by_cases hj : j = k
    · subst hj
      simp [hv, Memory.read_insert_same _ _ _ (Memory.not_mem_erase m j)]
    · simp [hv, hj, Memory.read_insert_other _ _ _ _ hj, Memory.read_erase]

theorem Memory.mem_erase {m : List Host.Cell} {k : Nat} {c : Host.Cell}
    (h : c ∈ Memory.erase m k) : c ∈ m := by
  induction m with
  | nil => simp [Memory.erase] at h
  | cons d rest ih =>
    by_cases hk : d.1 = k
    · exact List.mem_cons_of_mem _ (ih (by simpa [Memory.erase, hk] using h))
    · rcases (by simpa [Memory.erase, hk] using h : c = d ∨ c ∈ Memory.erase rest k) with rfl | h'
      · simp
      · exact List.mem_cons_of_mem _ (ih h')

theorem Memory.mem_insert {m : List Host.Cell} {k : Nat} {v : Byte} {c : Host.Cell}
    (h : c ∈ Memory.insert m k v) : c = (k, v) ∨ c ∈ m := by
  induction m with
  | nil => simpa [Memory.insert] using h
  | cons d rest ih =>
    by_cases hk : k < d.1
    · simpa [Memory.insert, hk] using h
    · rcases (by simpa [Memory.insert, hk] using h : c = d ∨ c ∈ Memory.insert rest k v) with rfl | h'
      · simp
      · rcases ih h' with rfl | h''
        · simp
        · simp [h'']

theorem Memory.erase_wf {m : List Host.Cell} (k : Nat) (h : Memory.wf m) :
    Memory.wf (Memory.erase m k) := by
  refine ⟨?_, fun c hc => h.2 c (Memory.mem_erase hc)⟩
  have hp := h.1
  clear h
  induction m with
  | nil => simp [Memory.erase]
  | cons d rest ih =>
    rw [List.pairwise_cons] at hp
    by_cases hk : d.1 = k
    · simpa [Memory.erase, hk] using ih hp.2
    · simp only [Memory.erase, hk, if_false, List.pairwise_cons]
      exact ⟨fun c hc => hp.1 c (Memory.mem_erase hc), ih hp.2⟩

theorem Memory.insert_wf {m : List Host.Cell} {k : Nat} {v : Byte} (h : Memory.wf m)
    (hne : ∀ c ∈ m, c.1 ≠ k) (hk : k < Config.memorySize) (hv : v ≠ Config.unlistedByte) :
    Memory.wf (Memory.insert m k v) := by
  refine ⟨?_, fun c hc => ?_⟩
  · have hp := h.1
    clear h
    induction m with
    | nil => simp [Memory.insert]
    | cons d rest ih =>
      rw [List.pairwise_cons] at hp
      by_cases hlt : k < d.1
      · simp only [Memory.insert, hlt, if_true, List.pairwise_cons]
        refine ⟨fun c hc => ?_, hp⟩
        rcases List.mem_cons.mp hc with rfl | hc
        · exact hlt
        · exact lt_trans hlt (hp.1 c hc)
      · simp only [Memory.insert, hlt, if_false, List.pairwise_cons]
        refine ⟨fun c hc => ?_, ih (fun c hc => hne c (by simp [hc])) hp.2⟩
        rcases Memory.mem_insert hc with rfl | hc
        · have := hne d (by simp)
          simp only
          omega
        · exact hp.1 c hc
  · rcases Memory.mem_insert hc with rfl | hc
    · exact ⟨hk, hv⟩
    · exact h.2 c hc

/-- Every write keeps the canonical form. -/
theorem Memory.write_wf {m : List Host.Cell} {k : Nat} (v : Byte) (h : Memory.wf m)
    (hk : k < Config.memorySize) : Memory.wf (Memory.write m k v) := by
  unfold Memory.write
  by_cases hv : v = Config.unlistedByte
  · simpa [hv] using Memory.erase_wf k h
  · simpa [hv] using Memory.insert_wf (Memory.erase_wf k h) (Memory.not_mem_erase m k) hk hv

theorem State.reset_mem_wf : Memory.wf State.reset.mem := by decide

theorem State.writeByte_wf {s : State} (k : Word) (v : Byte) (h : Memory.wf s.mem) :
    Memory.wf (s.writeByte k v).mem := Memory.write_wf v h k.isLt

theorem State.push8_wf {s : State} (v : Byte) (h : Memory.wf s.mem) : Memory.wf (s.push8 v).mem :=
  State.writeByte_wf _ v h

theorem State.push16_wf {s : State} (w : Word) (h : Memory.wf s.mem) : Memory.wf (s.push16 w).mem :=
  State.push8_wf _ (State.push8_wf _ h)

theorem State.enterInterrupt_wf {s : State} (r : Word) (b : Byte) (v : Word) (h : Memory.wf s.mem) :
    Memory.wf (s.enterInterrupt r b v).mem := State.push8_wf _ (State.push16_wf _ h)

/-- A read of a state written out is a read of its memory. -/
@[simp] theorem State.readByte_mk (a x y sp sr : Byte) (pc : Word) (cyc : Nat)
    (mem : List Host.Cell) (diag : List DiagRecord) (k : Word) :
    State.readByte ⟨a, x, y, sp, sr, pc, cyc, mem, diag⟩ k = Memory.read mem k.toNat := rfl

/-- The other direction: a read of a state's memory is a read of the state. -/
theorem memRead_mem (s : State) (k : Word) : Memory.read s.mem k.toNat = s.readByte k := rfl

/-- A byte read after a byte written. -/
theorem State.readByte_writeByte (s : State) (k j : Word) (v : Byte) :
    (s.writeByte k v).readByte j = if j = k then v else s.readByte j := by
  simp only [State.readByte, State.writeByte, Memory.read_write]
  simp only [BitVec.toNat_inj]

end Sys2Proof.Machine
end

