-- ==== Sys2Proof/Laws/Operands.lean ====
section
/-! SUPPORT. What one instruction around its effect does: each shared shape always answers a next
state, and that state is the effect's with CYC charged. -/

namespace Sys2Proof.Machine

open Sys2Proof

/-- The operand byte depends on A and memory alone, so PC's advance does not change it. -/
theorem loadOperand_pc (o : Operand) (ea p : Word) (s : State) :
    loadOperand o ea { s with pc := p } = loadOperand o ea s := by
  cases o <;> rfl

@[simp] theorem State.readByte_pc (s : State) (p k : Word) :
    State.readByte { s with pc := p } k = s.readByte k := rfl

@[simp] theorem State.flag_pc (s : State) (p : Word) (f : Flag) :
    State.flag { s with pc := p } f = s.flag f := rfl

/-- Everything `perform` can do. -/
theorem perform_eq (params : Params) (i : Instr) (effect : Resolved → State → State × Nat)
    (s : State) :
    perform params i effect s = .next
      ((effect (resolvedOf i s) { s with pc := nextPC i s }).1.charge params
        (params.costs i.opcode + (effect (resolvedOf i s) { s with pc := nextPC i s }).2 +
          pagePenalty i.mnemonic (resolvedOf i s).crossed)) := rfl

/-- Everything `performRead` can do. -/
theorem performRead_eq (params : Params) (i : Instr) (effect : Byte → State → State) (s : State) :
    performRead params i effect s = .next
      ((effect (operandByte i s) { s with pc := nextPC i s }).charge params
        (params.costs i.opcode + pagePenalty i.mnemonic (resolvedOf i s).crossed)) := by
  simp only [performRead, performPlain, perform, loadOperand_pc, operandByte, Nat.add_zero]

/-- Everything `performPlain` can do. -/
theorem performPlain_eq (params : Params) (i : Instr) (effect : Resolved → State → State)
    (s : State) :
    performPlain params i effect s = .next
      ((effect (resolvedOf i s) { s with pc := nextPC i s }).charge params
        (params.costs i.opcode + pagePenalty i.mnemonic (resolvedOf i s).crossed)) := rfl

/-- Everything `performImplied` can do. -/
theorem performImplied_eq (params : Params) (i : Instr) (effect : State → State) (s : State) :
    performImplied params i effect s = .next
      ((effect { s with pc := nextPC i s }).charge params
        (params.costs i.opcode + pagePenalty i.mnemonic (resolvedOf i s).crossed)) := rfl

/-- `f` is one instruction around an effect that does not depend on the parameters. -/
def OnlyCharges (i : Instr) (f : Params → State → StepResult) : Prop :=
  ∃ effect, ∀ params s, f params s = perform params i effect s

theorem perform_onlyCharges (i : Instr) (effect : Resolved → State → State × Nat) :
    OnlyCharges i (fun params s => perform params i effect s) :=
  ⟨effect, fun _ _ => rfl⟩

theorem performPlain_onlyCharges (i : Instr) (effect : Resolved → State → State) :
    OnlyCharges i (fun params s => performPlain params i effect s) :=
  perform_onlyCharges i _

theorem performRead_onlyCharges (i : Instr) (effect : Byte → State → State) :
    OnlyCharges i (fun params s => performRead params i effect s) :=
  performPlain_onlyCharges i _

theorem performImplied_onlyCharges (i : Instr) (effect : State → State) :
    OnlyCharges i (fun params s => performImplied params i effect s) :=
  performPlain_onlyCharges i _

/-- A store to an operand: A in ACCUMULATOR mode, else one byte of memory. -/
theorem storeOperand_cases (o : Operand) (ea : Word) (v : Byte) (s : State) :
    (o = .accumulator ∧ storeOperand o ea v s = { s with a := v }) ∨
    (o ≠ .accumulator ∧ storeOperand o ea v s = s.writeByte ea v) := by
  cases o <;> simp [storeOperand]

end Sys2Proof.Machine
end

