-- ==== Sys2Proof/Laws/Effects.lean ====
section
/-! SUPPORT. What an operand's store leaves alone, and what the three shared operations with a case in
them can do: a branch, a shift and a memory update. -/

namespace Sys2Proof.Machine

open Sys2Proof

@[simp] theorem storeOperand_x (o : Operand) (ea : Word) (v : Byte) (s : State) :
    (storeOperand o ea v s).x = s.x := by cases o <;> rfl

@[simp] theorem storeOperand_y (o : Operand) (ea : Word) (v : Byte) (s : State) :
    (storeOperand o ea v s).y = s.y := by cases o <;> rfl

@[simp] theorem storeOperand_sp (o : Operand) (ea : Word) (v : Byte) (s : State) :
    (storeOperand o ea v s).sp = s.sp := by cases o <;> rfl

@[simp] theorem storeOperand_sr (o : Operand) (ea : Word) (v : Byte) (s : State) :
    (storeOperand o ea v s).sr = s.sr := by cases o <;> rfl

@[simp] theorem storeOperand_pc (o : Operand) (ea : Word) (v : Byte) (s : State) :
    (storeOperand o ea v s).pc = s.pc := by cases o <;> rfl

@[simp] theorem storeOperand_cyc (o : Operand) (ea : Word) (v : Byte) (s : State) :
    (storeOperand o ea v s).cyc = s.cyc := by cases o <;> rfl

@[simp] theorem storeOperand_diag (o : Operand) (ea : Word) (v : Byte) (s : State) :
    (storeOperand o ea v s).diag = s.diag := by cases o <;> rfl

/-- A store to A writes A. -/
theorem storeOperand_a (o : Operand) (ea : Word) (v : Byte) (s : State) :
    (storeOperand o ea v s).a = if o = .accumulator then v else s.a := by
  cases o <;> simp [storeOperand]

/-- A store to any other operand writes one byte of memory. -/
theorem storeOperand_readByte (o : Operand) (ea k : Word) (v : Byte) (s : State) :
    (storeOperand o ea v s).readByte k =
      if o ≠ .accumulator ∧ k = ea then v else s.readByte k := by
  rcases storeOperand_cases o ea v s with ⟨h, e⟩ | ⟨h, e⟩
  · rw [e, if_neg (fun hn => hn.1 h)]
    rfl
  · simp only [e, State.readByte_writeByte, ne_eq, h, not_false_eq_true, true_and]

/-- A store keeps the canonical form of memory. -/
theorem storeOperand_wf (o : Operand) (ea : Word) (v : Byte) {s : State} (h : Memory.wf s.mem) :
    Memory.wf (storeOperand o ea v s).mem := by
  rcases storeOperand_cases o ea v s with ⟨_, e⟩ | ⟨_, e⟩ <;> rw [e]
  · exact h
  · exact State.writeByte_wf ea v h

/-- Everything a shift or rotate can do (44_shift_incdec.md R200). -/
theorem runShift_eq (params : Params) (k : Shift) (i : Instr) (s : State) :
    runShift params k i s = .next
      (((storeOperand i.operand (resolvedOf i s).ea
            (shiftResult k (operandByte i s) (s.flag .C))
            (State.setFlag { s with pc := nextPC i s } .C (shiftCarry k (operandByte i s)))).setZN
          (shiftResult k (operandByte i s) (s.flag .C))).charge params
        (params.costs i.opcode + pagePenalty i.mnemonic (resolvedOf i s).crossed)) := by
  simp only [runShift, performPlain_eq, loadOperand_pc, State.flag_pc, operandByte]

/-- Everything an increment or decrement of memory can do (R205, R206). -/
theorem runMemoryUpdate_eq (params : Params) (f : Byte → Byte) (i : Instr) (s : State) :
    runMemoryUpdate params f i s = .next
      (State.charge
        { ((s.writeByte (resolvedOf i s).ea (f (s.readByte (resolvedOf i s).ea))).setZN
            (f (s.readByte (resolvedOf i s).ea))) with pc := nextPC i s }
        params (params.costs i.opcode + pagePenalty i.mnemonic (resolvedOf i s).crossed)) :=
  rfl

theorem runShift_onlyCharges (k : Shift) (i : Instr) :
    OnlyCharges i (fun params s => runShift params k i s) :=
  performPlain_onlyCharges i _

theorem runMemoryUpdate_onlyCharges (f : Byte → Byte) (i : Instr) :
    OnlyCharges i (fun params s => runMemoryUpdate params f i s) :=
  performPlain_onlyCharges i _

theorem runBranch_onlyCharges (taken : State → Bool) (i : Instr) :
    OnlyCharges i (fun params s => runBranch params taken i s) :=
  perform_onlyCharges i _

/-- Everything a branch can do (45_control.md R230): the condition holds and PC is the target, or it
does not and PC is the next instruction's address. -/
theorem runBranch_cases (params : Params) (taken : State → Bool) (i : Instr) (s : State) :
    (taken { s with pc := nextPC i s } = true ∧ runBranch params taken i s = .next
      (State.charge { s with pc := (resolvedOf i s).ea } params
        (params.costs i.opcode + (1 + bit (resolvedOf i s).crossed) +
          pagePenalty i.mnemonic (resolvedOf i s).crossed))) ∨
    (taken { s with pc := nextPC i s } = false ∧ runBranch params taken i s = .next
      (State.charge { s with pc := nextPC i s } params
        (params.costs i.opcode + 0 + pagePenalty i.mnemonic (resolvedOf i s).crossed))) := by
  cases h : taken { s with pc := nextPC i s }
  · exact Or.inr ⟨rfl, by simp [runBranch, perform_eq, h]⟩
  · exact Or.inl ⟨rfl, by simp [runBranch, perform_eq, h]⟩

end Sys2Proof.Machine
end

