-- ==== Sys2Proof/Laws/Dispatch.lean ====
section
/-! SUPPORT. The inversion lemmas of exec: every arm is the shared operation of its mnemonic at the
default parameters, so a proof over all instructions splits on the 57 mnemonics and not on the rows;
and under any parameters an instruction is one `perform`, or the event of an empty slot. -/

namespace Sys2Proof.Machine

open Sys2Proof

/-- Everything `exec` can do. -/
theorem exec_eq_execWith (i : Instr) (s : State) : exec i s = execWith defaultParams i s := by
  cases i <;> rfl

/-- Everything `step` can do. -/
theorem step_eq_stepWith (s : State) : step s = stepWith defaultParams s :=
  exec_eq_execWith (fetch s) s

/-- The core is the one of the default parameters. -/
theorem core_eq_coreWith : Sys2Proof.core = coreWith defaultParams := by
  have h : step = stepWith defaultParams := funext step_eq_stepWith
  rw [Sys2Proof.core, coreWith, h]

/-- A step is `exec` of the fetched instruction. -/
theorem step_eq (s : State) : step s = exec (fetch s) s := rfl

/-- Everything `execWith` can do: an empty slot's event, or one instruction around an effect that
does not depend on the parameters. -/
theorem execWith_cases (i : Instr) :
    (i.mnemonic = .UNIMPLEMENTED ∧
      ∀ params s, execWith params i s = runUnimplemented params i.opcode s) ∨
    (i.mnemonic ≠ .UNIMPLEMENTED ∧ OnlyCharges i (fun params s => execWith params i s)) := by
  cases h : i.mnemonic
  case UNIMPLEMENTED => exact Or.inl ⟨rfl, fun _ _ => by rw [execWith, h]⟩
  all_goals
    refine Or.inr ⟨by decide, ?_⟩
    simp only [execWith, h]
    first
      | exact performRead_onlyCharges i _
      | exact performImplied_onlyCharges i _
      | exact performPlain_onlyCharges i _
      | exact runBranch_onlyCharges _ i
      | exact runShift_onlyCharges _ i
      | exact runMemoryUpdate_onlyCharges _ i

end Sys2Proof.Machine
end

