-- ==== Sys2Proof/Laws/HostInterface.lean ====
section
/-! SUPPORT. The host operations: what placing bytes in memory leaves. -/

namespace Sys2Proof.Machine

open Sys2Proof

/-- Placing bytes changes memory alone. -/
theorem placeBytes_frame (bytes : List Byte) (s : State) (k : Word) :
    { placeBytes s k bytes with mem := s.mem } = s := by
  induction bytes generalizing s k with
  | nil => rfl
  | cons b rest ih =>
    exact congrArg (fun t : State => { t with mem := s.mem }) (ih (s.writeByte k b) (k + 1#16))

/-- Placing bytes keeps the canonical form. -/
theorem placeBytes_wf (bytes : List Byte) {s : State} (k : Word) (h : Memory.wf s.mem) :
    Memory.wf (placeBytes s k bytes).mem := by
  induction bytes generalizing s k with
  | nil => exact h
  | cons b rest ih => exact ih _ (State.writeByte_wf k b h)

/-- Placing one more byte stores it after the others. -/
theorem placeBytes_append (bytes : List Byte) (b : Byte) (s : State) (k : Word) :
    placeBytes s k (bytes ++ [b]) =
      (placeBytes s k bytes).writeByte (k + BitVec.ofNat 16 bytes.length) b := by
  induction bytes generalizing s k with
  | nil => simp [placeBytes]
  | cons c rest ih =>
    simp only [List.cons_append, placeBytes, ih, List.length_cons]
    congr 1
    rw [BitVec.add_assoc]
    congr 1
    rw [BitVec.add_comm, ← BitVec.ofNat_add]

end Sys2Proof.Machine
end

