-- ==== Sys2Proof/Laws/PerInstr.lean ====
section
/-! SUPPORT. A fact of every instruction as syntax, one lemma per constructor: its encoding starts
with its opcode byte and is as long as that byte fixes (30_encoding.md R81, R82). -/

namespace Sys2Proof.Laws.EncodingLength

/-- The encoding starts with the opcode byte, is as long as the mode says, and is 1 to 3 bytes. -/
def Statement (i : Instr) : Prop :=
  (encode i).head? = some i.opcode ∧ (encode i).length = i.length ∧ 1 ≤ i.length ∧ i.length ≤ 3

theorem operandBytes_length (o : Operand) :
    (operandBytes o).length = operandWidth o ∧ operandWidth o ≤ 2 := by
  cases o <;> simp [operandBytes, operandWidth]

theorem of_operand (i : Instr) : Statement i := by
  obtain ⟨hlen, hle⟩ := operandBytes_length i.operand
  refine ⟨rfl, ?_, ?_, ?_⟩ <;> simp only [encode, Instr.length, List.length_cons] <;> omega

theorem ldaIndX (z : Byte) : Statement (.ldaIndX z) := of_operand _
theorem ldaZp (z : Byte) : Statement (.ldaZp z) := of_operand _
theorem ldaImm (i : Byte) : Statement (.ldaImm i) := of_operand _
theorem ldaAbs (w : Word) : Statement (.ldaAbs w) := of_operand _
theorem ldaIndY (z : Byte) : Statement (.ldaIndY z) := of_operand _
theorem ldaZpX (z : Byte) : Statement (.ldaZpX z) := of_operand _
theorem ldaAbsY (w : Word) : Statement (.ldaAbsY w) := of_operand _
theorem ldaAbsX (w : Word) : Statement (.ldaAbsX w) := of_operand _
theorem ldxImm (i : Byte) : Statement (.ldxImm i) := of_operand _
theorem ldxZp (z : Byte) : Statement (.ldxZp z) := of_operand _
theorem ldxAbs (w : Word) : Statement (.ldxAbs w) := of_operand _
theorem ldxZpY (z : Byte) : Statement (.ldxZpY z) := of_operand _
theorem ldxAbsY (w : Word) : Statement (.ldxAbsY w) := of_operand _
theorem ldyImm (i : Byte) : Statement (.ldyImm i) := of_operand _
theorem ldyZp (z : Byte) : Statement (.ldyZp z) := of_operand _
theorem ldyAbs (w : Word) : Statement (.ldyAbs w) := of_operand _
theorem ldyZpX (z : Byte) : Statement (.ldyZpX z) := of_operand _
theorem ldyAbsX (w : Word) : Statement (.ldyAbsX w) := of_operand _
theorem staIndX (z : Byte) : Statement (.staIndX z) := of_operand _
theorem staZp (z : Byte) : Statement (.staZp z) := of_operand _
theorem staAbs (w : Word) : Statement (.staAbs w) := of_operand _
theorem staIndY (z : Byte) : Statement (.staIndY z) := of_operand _
theorem staZpX (z : Byte) : Statement (.staZpX z) := of_operand _
theorem staAbsY (w : Word) : Statement (.staAbsY w) := of_operand _
theorem staAbsX (w : Word) : Statement (.staAbsX w) := of_operand _
theorem stxZp (z : Byte) : Statement (.stxZp z) := of_operand _
theorem stxAbs (w : Word) : Statement (.stxAbs w) := of_operand _
theorem stxZpY (z : Byte) : Statement (.stxZpY z) := of_operand _
theorem styZp (z : Byte) : Statement (.styZp z) := of_operand _
theorem styAbs (w : Word) : Statement (.styAbs w) := of_operand _
theorem styZpX (z : Byte) : Statement (.styZpX z) := of_operand _
theorem tax : Statement (.tax) := of_operand _
theorem tay : Statement (.tay) := of_operand _
theorem txa : Statement (.txa) := of_operand _
theorem tya : Statement (.tya) := of_operand _
theorem tsx : Statement (.tsx) := of_operand _
theorem txs : Statement (.txs) := of_operand _
theorem adcIndX (z : Byte) : Statement (.adcIndX z) := of_operand _
theorem adcZp (z : Byte) : Statement (.adcZp z) := of_operand _
theorem adcImm (i : Byte) : Statement (.adcImm i) := of_operand _
theorem adcAbs (w : Word) : Statement (.adcAbs w) := of_operand _
theorem adcIndY (z : Byte) : Statement (.adcIndY z) := of_operand _
theorem adcZpX (z : Byte) : Statement (.adcZpX z) := of_operand _
theorem adcAbsY (w : Word) : Statement (.adcAbsY w) := of_operand _
theorem adcAbsX (w : Word) : Statement (.adcAbsX w) := of_operand _
theorem sbcIndX (z : Byte) : Statement (.sbcIndX z) := of_operand _
theorem sbcZp (z : Byte) : Statement (.sbcZp z) := of_operand _
theorem sbcImm (i : Byte) : Statement (.sbcImm i) := of_operand _
theorem sbcAbs (w : Word) : Statement (.sbcAbs w) := of_operand _
theorem sbcIndY (z : Byte) : Statement (.sbcIndY z) := of_operand _
theorem sbcZpX (z : Byte) : Statement (.sbcZpX z) := of_operand _
theorem sbcAbsY (w : Word) : Statement (.sbcAbsY w) := of_operand _
theorem sbcAbsX (w : Word) : Statement (.sbcAbsX w) := of_operand _
theorem andIndX (z : Byte) : Statement (.andIndX z) := of_operand _
theorem andZp (z : Byte) : Statement (.andZp z) := of_operand _
theorem andImm (i : Byte) : Statement (.andImm i) := of_operand _
theorem andAbs (w : Word) : Statement (.andAbs w) := of_operand _
theorem andIndY (z : Byte) : Statement (.andIndY z) := of_operand _
theorem andZpX (z : Byte) : Statement (.andZpX z) := of_operand _
theorem andAbsY (w : Word) : Statement (.andAbsY w) := of_operand _
theorem andAbsX (w : Word) : Statement (.andAbsX w) := of_operand _
theorem oraIndX (z : Byte) : Statement (.oraIndX z) := of_operand _
theorem oraZp (z : Byte) : Statement (.oraZp z) := of_operand _
theorem oraImm (i : Byte) : Statement (.oraImm i) := of_operand _
theorem oraAbs (w : Word) : Statement (.oraAbs w) := of_operand _
theorem oraIndY (z : Byte) : Statement (.oraIndY z) := of_operand _
theorem oraZpX (z : Byte) : Statement (.oraZpX z) := of_operand _
theorem oraAbsY (w : Word) : Statement (.oraAbsY w) := of_operand _
theorem oraAbsX (w : Word) : Statement (.oraAbsX w) := of_operand _
theorem eorIndX (z : Byte) : Statement (.eorIndX z) := of_operand _
theorem eorZp (z : Byte) : Statement (.eorZp z) := of_operand _
theorem eorImm (i : Byte) : Statement (.eorImm i) := of_operand _
theorem eorAbs (w : Word) : Statement (.eorAbs w) := of_operand _
theorem eorIndY (z : Byte) : Statement (.eorIndY z) := of_operand _
theorem eorZpX (z : Byte) : Statement (.eorZpX z) := of_operand _
theorem eorAbsY (w : Word) : Statement (.eorAbsY w) := of_operand _
theorem eorAbsX (w : Word) : Statement (.eorAbsX w) := of_operand _
theorem cmpIndX (z : Byte) : Statement (.cmpIndX z) := of_operand _
theorem cmpZp (z : Byte) : Statement (.cmpZp z) := of_operand _
theorem cmpImm (i : Byte) : Statement (.cmpImm i) := of_operand _
theorem cmpAbs (w : Word) : Statement (.cmpAbs w) := of_operand _
theorem cmpIndY (z : Byte) : Statement (.cmpIndY z) := of_operand _
theorem cmpZpX (z : Byte) : Statement (.cmpZpX z) := of_operand _
theorem cmpAbsY (w : Word) : Statement (.cmpAbsY w) := of_operand _
theorem cmpAbsX (w : Word) : Statement (.cmpAbsX w) := of_operand _
theorem cpxImm (i : Byte) : Statement (.cpxImm i) := of_operand _
theorem cpxZp (z : Byte) : Statement (.cpxZp z) := of_operand _
theorem cpxAbs (w : Word) : Statement (.cpxAbs w) := of_operand _
theorem cpyImm (i : Byte) : Statement (.cpyImm i) := of_operand _
theorem cpyZp (z : Byte) : Statement (.cpyZp z) := of_operand _
theorem cpyAbs (w : Word) : Statement (.cpyAbs w) := of_operand _
theorem bitZp (z : Byte) : Statement (.bitZp z) := of_operand _
theorem bitAbs (w : Word) : Statement (.bitAbs w) := of_operand _
theorem aslZp (z : Byte) : Statement (.aslZp z) := of_operand _
theorem aslAcc : Statement (.aslAcc) := of_operand _
theorem aslAbs (w : Word) : Statement (.aslAbs w) := of_operand _
theorem aslZpX (z : Byte) : Statement (.aslZpX z) := of_operand _
theorem aslAbsX (w : Word) : Statement (.aslAbsX w) := of_operand _
theorem lsrZp (z : Byte) : Statement (.lsrZp z) := of_operand _
theorem lsrAcc : Statement (.lsrAcc) := of_operand _
theorem lsrAbs (w : Word) : Statement (.lsrAbs w) := of_operand _
theorem lsrZpX (z : Byte) : Statement (.lsrZpX z) := of_operand _
theorem lsrAbsX (w : Word) : Statement (.lsrAbsX w) := of_operand _
theorem rolZp (z : Byte) : Statement (.rolZp z) := of_operand _
theorem rolAcc : Statement (.rolAcc) := of_operand _
theorem rolAbs (w : Word) : Statement (.rolAbs w) := of_operand _
theorem rolZpX (z : Byte) : Statement (.rolZpX z) := of_operand _
theorem rolAbsX (w : Word) : Statement (.rolAbsX w) := of_operand _
theorem rorZp (z : Byte) : Statement (.rorZp z) := of_operand _
theorem rorAcc : Statement (.rorAcc) := of_operand _
theorem rorAbs (w : Word) : Statement (.rorAbs w) := of_operand _
theorem rorZpX (z : Byte) : Statement (.rorZpX z) := of_operand _
theorem rorAbsX (w : Word) : Statement (.rorAbsX w) := of_operand _
theorem incZp (z : Byte) : Statement (.incZp z) := of_operand _
theorem incAbs (w : Word) : Statement (.incAbs w) := of_operand _
theorem incZpX (z : Byte) : Statement (.incZpX z) := of_operand _
theorem incAbsX (w : Word) : Statement (.incAbsX w) := of_operand _
theorem decZp (z : Byte) : Statement (.decZp z) := of_operand _
theorem decAbs (w : Word) : Statement (.decAbs w) := of_operand _
theorem decZpX (z : Byte) : Statement (.decZpX z) := of_operand _
theorem decAbsX (w : Word) : Statement (.decAbsX w) := of_operand _
theorem inx : Statement (.inx) := of_operand _
theorem iny : Statement (.iny) := of_operand _
theorem dex : Statement (.dex) := of_operand _
theorem dey : Statement (.dey) := of_operand _
theorem jmpAbs (w : Word) : Statement (.jmpAbs w) := of_operand _
theorem jmpInd (w : Word) : Statement (.jmpInd w) := of_operand _
theorem jsr (w : Word) : Statement (.jsr w) := of_operand _
theorem rts : Statement (.rts) := of_operand _
theorem bcc (r : Byte) : Statement (.bcc r) := of_operand _
theorem bcs (r : Byte) : Statement (.bcs r) := of_operand _
theorem beq (r : Byte) : Statement (.beq r) := of_operand _
theorem bmi (r : Byte) : Statement (.bmi r) := of_operand _
theorem bne (r : Byte) : Statement (.bne r) := of_operand _
theorem bpl (r : Byte) : Statement (.bpl r) := of_operand _
theorem bvc (r : Byte) : Statement (.bvc r) := of_operand _
theorem bvs (r : Byte) : Statement (.bvs r) := of_operand _
theorem pha : Statement (.pha) := of_operand _
theorem php : Statement (.php) := of_operand _
theorem pla : Statement (.pla) := of_operand _
theorem plp : Statement (.plp) := of_operand _
theorem clc : Statement (.clc) := of_operand _
theorem cld : Statement (.cld) := of_operand _
theorem cli : Statement (.cli) := of_operand _
theorem clv : Statement (.clv) := of_operand _
theorem sec : Statement (.sec) := of_operand _
theorem sed : Statement (.sed) := of_operand _
theorem sei : Statement (.sei) := of_operand _
theorem nop : Statement (.nop) := of_operand _
theorem brk : Statement (.brk) := of_operand _
theorem rti : Statement (.rti) := of_operand _
theorem unimplemented (op : Byte) : Statement (.unimplemented op) := of_operand _

end Sys2Proof.Laws.EncodingLength
end

