-- ==== Sys2Proof/Laws/Stack.lean ====
section
/-! SUPPORT. The laws of the stack (20_memory.md R58 to R64) and of the interrupt frame
(47_interrupt_instr.md R292). -/

namespace Sys2Proof.Machine

open Sys2Proof

/-- A stack address lies in page 0x01 (10_state.md R23). -/
theorem stackAddr_toNat (sp : Byte) : (stackAddr sp).toNat = 0x0100 + sp.toNat := by
  have := sp.isLt
  rw [stackAddr, BitVec.toNat_add, zext16_toNat]
  simp only [BitVec.toNat_ofNat]
  omega

@[simp] theorem stackAddr_inj {p q : Byte} : stackAddr p = stackAddr q ↔ p = q := by
  rw [← BitVec.toNat_inj, stackAddr_toNat, stackAddr_toNat, ← BitVec.toNat_inj]
  omega

/-- A stack address is no address of another page. -/
theorem stackAddr_ne {sp : Byte} {k : Word} (h : k.toNat < 0x0100 ∨ 0x01FF < k.toNat) :
    k ≠ stackAddr sp := by
  rintro rfl
  have := sp.isLt
  rw [stackAddr_toNat] at h
  omega

/-- Memory after a push. -/
theorem State.readByte_push8 (s : State) (v : Byte) (k : Word) :
    (s.push8 v).readByte k = if k = stackAddr s.sp then v else s.readByte k :=
  State.readByte_writeByte s _ k v

/-- Memory after a word's push. -/
theorem State.readByte_push16 (s : State) (w : Word) (k : Word) :
    (s.push16 w).readByte k =
      if k = stackAddr (s.sp - 1#8) then lo w
      else if k = stackAddr s.sp then hi w else s.readByte k := by
  rw [State.push16, State.readByte_push8, State.readByte_push8, State.push8_sp]

/-- Memory after an interrupt entry: the frame of R292. -/
theorem State.readByte_enterInterrupt (s : State) (r : Word) (b : Byte) (v k : Word) :
    (s.enterInterrupt r b v).readByte k =
      if k = stackAddr (s.sp - 1#8 - 1#8) then b
      else if k = stackAddr (s.sp - 1#8) then lo r
      else if k = stackAddr s.sp then hi r else s.readByte k := by
  have h : (s.enterInterrupt r b v).readByte k = ((s.push16 r).push8 b).readByte k :=
    State.readByte_of_mem _ _ (State.enterInterrupt_mem s r b v) k
  rw [h, State.readByte_push8, State.readByte_push16, State.push16_sp]

/-- An interrupt entry loads PC from a vector outside the stack page as it was before the entry. -/
theorem State.enterInterrupt_vector (s : State) (r : Word) (b : Byte) (v : Word)
    (h : 0x01FF < v.toNat) (h' : 0x01FF < (v + 1#16).toNat) :
    (s.enterInterrupt r b v).pc = s.readWord v := by
  have key : ∀ k : Word, 0x01FF < k.toNat → ((s.push16 r).push8 b).readByte k = s.readByte k := by
    intro k hk
    rw [State.readByte_push8, State.readByte_push16, if_neg (stackAddr_ne (Or.inr hk)),
      if_neg (stackAddr_ne (Or.inr hk)), if_neg (stackAddr_ne (Or.inr hk))]
  rw [State.enterInterrupt_pc, State.readWord, State.readWord, key _ h', key _ h]

@[simp] theorem State.flag_enterInterrupt (s : State) (r : Word) (b : Byte) (v : Word) (f : Flag) :
    (s.enterInterrupt r b v).flag f = if f = .I then true else s.flag f := by
  rw [State.flag, State.enterInterrupt_sr]
  exact getFlag_putFlag .I f true s.sr

end Sys2Proof.Machine
end

