-- ==== Sys2Proof/Tests/Slice0.lean ====
section
/-! SUPPORT. The model's own tests. The words of the decode tests are written from 30_encoding.md R81,
R83 and R87; the expected results of the step tests are the vectors of 95_test_vectors.md; the witness
theorems show that the hypotheses of each obligation can be met. -/

namespace Sys2Proof.Tests

open Sys2Proof Sys2Proof.Machine Sys2Proof.Claims

/-- A, X, Y, SP and SR. -/
structure Regs where
  a  : Byte
  x  : Byte
  y  : Byte
  sp : Byte
  sr : Byte
  deriving DecidableEq, Repr

/-- The registers after reset. -/
def startRegs : Regs := ⟨0x00#8, 0x00#8, 0x00#8, 0xFD#8, 0x24#8⟩

/-- The start of a vector: the reset state with PC, registers and memory cells set, and then the
instruction's bytes stored at PC. -/
def vector (pc : Word) (bytes : List Byte) (cells : List (Word × Byte)) (r : Regs) : State :=
  let s := { State.reset with a := r.a, x := r.x, y := r.y, sp := r.sp, sr := r.sr, pc := pc }
  placeBytes (cells.foldl (fun t c => t.writeByte c.1 c.2) s) pc bytes

/-- What a vector's result lists: the registers, PC, CYC, the watched cells and DIAG. -/
structure Observed where
  regs  : Regs
  pc    : Word
  cyc   : Nat
  cells : List Byte
  diag  : List DiagRecord
  deriving DecidableEq, Repr

/-- What a vector's result lists of a next state. -/
def observedOf (t : State) (watch : List Word) : Observed :=
  ⟨⟨t.a, t.x, t.y, t.sp, t.sr⟩, t.pc, t.cyc, watch.map t.readByte, t.diag⟩

/-- What a vector's result lists; nothing where the step does not answer a next state. -/
def observed (r : StepResult) (watch : List Word) : Option Observed :=
  match r with
  | .next t => some (observedOf t watch)
  | .fault _ => none
  | .refused _ => none

/-! ## Step vectors (95_test_vectors.md L2) -/

/-- V-AM2: `LDA #$5A` (95_test_vectors.md). -/
theorem test_V_AM2 :
    observed (step (vector 0xFFFF#16 [0xA9#8, 0x5A#8]
        [] startRegs)) [] =
      some ⟨⟨0x5A#8, 0x00#8, 0x00#8, 0xFD#8, 0x24#8⟩, 0x0001#16, 2, [], []⟩ := by decide

/-- V-AM3: `LDA $42` (95_test_vectors.md). -/
theorem test_V_AM3 :
    observed (step (vector 0x0200#16 [0xA5#8, 0x42#8]
        [(0x0042#16, 0x07#8)] startRegs)) [] =
      some ⟨⟨0x07#8, 0x00#8, 0x00#8, 0xFD#8, 0x24#8⟩, 0x0202#16, 3, [], []⟩ := by decide

/-- V-AM4: `LDA $F0,X` (95_test_vectors.md). -/
theorem test_V_AM4 :
    observed (step (vector 0x0200#16 [0xB5#8, 0xF0#8]
        [(0x0010#16, 0x99#8), (0x0110#16, 0x11#8)] ⟨0x00#8, 0x20#8, 0x00#8, 0xFD#8, 0x24#8⟩)) [] =
      some ⟨⟨0x99#8, 0x20#8, 0x00#8, 0xFD#8, 0xA4#8⟩, 0x0202#16, 4, [], []⟩ := by decide

/-- V-AM5: `LDX $FF,Y` (95_test_vectors.md). -/
theorem test_V_AM5 :
    observed (step (vector 0x0200#16 [0xB6#8, 0xFF#8]
        [(0x0001#16, 0x44#8), (0x0101#16, 0x55#8)] ⟨0x00#8, 0x00#8, 0x02#8, 0xFD#8, 0x24#8⟩)) [] =
      some ⟨⟨0x00#8, 0x44#8, 0x02#8, 0xFD#8, 0x24#8⟩, 0x0202#16, 4, [], []⟩ := by decide

/-- V-AM6: `LDA $1234` (95_test_vectors.md). -/
theorem test_V_AM6 :
    observed (step (vector 0x0200#16 [0xAD#8, 0x34#8, 0x12#8]
        [(0x1234#16, 0x01#8)] startRegs)) [] =
      some ⟨⟨0x01#8, 0x00#8, 0x00#8, 0xFD#8, 0x24#8⟩, 0x0203#16, 4, [], []⟩ := by decide

/-- V-AM7: `LDA $1200,X` (95_test_vectors.md). -/
theorem test_V_AM7 :
    observed (step (vector 0x0200#16 [0xBD#8, 0x00#8, 0x12#8]
        [(0x1201#16, 0x00#8)] ⟨0x00#8, 0x01#8, 0x00#8, 0xFD#8, 0x24#8⟩)) [] =
      some ⟨⟨0x00#8, 0x01#8, 0x00#8, 0xFD#8, 0x26#8⟩, 0x0203#16, 4, [], []⟩ := by decide

/-- V-AM8: `LDA $12FF,X` (95_test_vectors.md). -/
theorem test_V_AM8 :
    observed (step (vector 0x0200#16 [0xBD#8, 0xFF#8, 0x12#8]
        [(0x1300#16, 0x00#8)] ⟨0x00#8, 0x01#8, 0x00#8, 0xFD#8, 0x24#8⟩)) [] =
      some ⟨⟨0x00#8, 0x01#8, 0x00#8, 0xFD#8, 0x26#8⟩, 0x0203#16, 5, [], []⟩ := by decide

/-- V-AM10: `LDA $1280,Y` (95_test_vectors.md). -/
theorem test_V_AM10 :
    observed (step (vector 0x0200#16 [0xB9#8, 0x80#8, 0x12#8]
        [(0x1300#16, 0x33#8)] ⟨0x00#8, 0x00#8, 0x80#8, 0xFD#8, 0x24#8⟩)) [] =
      some ⟨⟨0x33#8, 0x00#8, 0x80#8, 0xFD#8, 0x24#8⟩, 0x0203#16, 5, [], []⟩ := by decide

/-- V-AM11: `LDA ($20,X)` (95_test_vectors.md). -/
theorem test_V_AM11 :
    observed (step (vector 0x0200#16 [0xA1#8, 0x20#8]
        [(0x0024#16, 0x00#8), (0x0025#16, 0x30#8), (0x3000#16, 0xAB#8)] ⟨0x00#8, 0x04#8, 0x00#8, 0xFD#8, 0x24#8⟩)) [] =
      some ⟨⟨0xAB#8, 0x04#8, 0x00#8, 0xFD#8, 0xA4#8⟩, 0x0202#16, 6, [], []⟩ := by decide

/-- V-AM12: `LDA ($FE,X)` (95_test_vectors.md). -/
theorem test_V_AM12 :
    observed (step (vector 0x0200#16 [0xA1#8, 0xFE#8]
        [(0x0000#16, 0x12#8), (0x00FF#16, 0x34#8), (0x1234#16, 0x77#8)] ⟨0x00#8, 0x01#8, 0x00#8, 0xFD#8, 0x24#8⟩)) [] =
      some ⟨⟨0x77#8, 0x01#8, 0x00#8, 0xFD#8, 0x24#8⟩, 0x0202#16, 6, [], []⟩ := by decide

/-- V-AM14: `LDA ($20),Y` (95_test_vectors.md). -/
theorem test_V_AM14 :
    observed (step (vector 0x0200#16 [0xB1#8, 0x20#8]
        [(0x0020#16, 0xFF#8), (0x0021#16, 0x12#8), (0x1300#16, 0x42#8)] ⟨0x00#8, 0x00#8, 0x01#8, 0xFD#8, 0x24#8⟩)) [] =
      some ⟨⟨0x42#8, 0x00#8, 0x01#8, 0xFD#8, 0x24#8⟩, 0x0202#16, 6, [], []⟩ := by decide

/-- V-AM15: `LDA ($FF),Y` (95_test_vectors.md). -/
theorem test_V_AM15 :
    observed (step (vector 0x0200#16 [0xB1#8, 0xFF#8]
        [(0x0000#16, 0x30#8), (0x00FF#16, 0xF8#8), (0x3108#16, 0x5A#8)] ⟨0x00#8, 0x00#8, 0x10#8, 0xFD#8, 0x24#8⟩)) [] =
      some ⟨⟨0x5A#8, 0x00#8, 0x10#8, 0xFD#8, 0x24#8⟩, 0x0202#16, 6, [], []⟩ := by decide

/-- V-AM17: `JMP ($12FF)` (95_test_vectors.md). -/
theorem test_V_AM17 :
    observed (step (vector 0x0200#16 [0x6C#8, 0xFF#8, 0x12#8]
        [(0x1200#16, 0x56#8), (0x12FF#16, 0x34#8), (0x1300#16, 0x78#8)] startRegs)) [] =
      some ⟨⟨0x00#8, 0x00#8, 0x00#8, 0xFD#8, 0x24#8⟩, 0x5634#16, 5, [], []⟩ := by decide

/-- V-AM19: `JMP ($FFFF)` (95_test_vectors.md). -/
theorem test_V_AM19 :
    observed (step (vector 0x0200#16 [0x6C#8, 0xFF#8, 0xFF#8]
        [(0xFF00#16, 0x90#8), (0xFFFF#16, 0x00#8)] startRegs)) [] =
      some ⟨⟨0x00#8, 0x00#8, 0x00#8, 0xFD#8, 0x24#8⟩, 0x9000#16, 5, [], []⟩ := by decide

/-- V-AM21: `ASL A` (95_test_vectors.md). -/
theorem test_V_AM21 :
    observed (step (vector 0x0200#16 [0x0A#8]
        [] ⟨0x40#8, 0x00#8, 0x00#8, 0xFD#8, 0x24#8⟩)) [] =
      some ⟨⟨0x80#8, 0x00#8, 0x00#8, 0xFD#8, 0xA4#8⟩, 0x0201#16, 2, [], []⟩ := by decide

/-- V-LS2: `LDA #$80` (95_test_vectors.md). -/
theorem test_V_LS2 :
    observed (step (vector 0x0200#16 [0xA9#8, 0x80#8]
        [] startRegs)) [] =
      some ⟨⟨0x80#8, 0x00#8, 0x00#8, 0xFD#8, 0xA4#8⟩, 0x0202#16, 2, [], []⟩ := by decide

/-- V-LS3: `LDX #$FF` (95_test_vectors.md). -/
theorem test_V_LS3 :
    observed (step (vector 0x0000#16 [0xA2#8, 0xFF#8]
        [] startRegs)) [] =
      some ⟨⟨0x00#8, 0xFF#8, 0x00#8, 0xFD#8, 0xA4#8⟩, 0x0002#16, 2, [], []⟩ := by decide

/-- V-LS4: `LDX $10` (95_test_vectors.md). -/
theorem test_V_LS4 :
    observed (step (vector 0x0200#16 [0xA6#8, 0x10#8]
        [(0x0010#16, 0x7F#8)] startRegs)) [] =
      some ⟨⟨0x00#8, 0x7F#8, 0x00#8, 0xFD#8, 0x24#8⟩, 0x0202#16, 3, [], []⟩ := by decide

/-- V-LS5: `LDY $1234,X` (95_test_vectors.md). -/
theorem test_V_LS5 :
    observed (step (vector 0x0200#16 [0xBC#8, 0x34#8, 0x12#8]
        [(0x1236#16, 0xFF#8)] ⟨0x00#8, 0x02#8, 0x00#8, 0xFD#8, 0x24#8⟩)) [] =
      some ⟨⟨0x00#8, 0x02#8, 0xFF#8, 0xFD#8, 0xA4#8⟩, 0x0203#16, 4, [], []⟩ := by decide

/-- V-LS6: `STA $80` (95_test_vectors.md). -/
theorem test_V_LS6 :
    observed (step (vector 0x0200#16 [0x85#8, 0x80#8]
        [(0x0080#16, 0x99#8)] ⟨0x00#8, 0x00#8, 0x00#8, 0xFD#8, 0xA4#8⟩)) [0x0080#16] =
      some ⟨⟨0x00#8, 0x00#8, 0x00#8, 0xFD#8, 0xA4#8⟩, 0x0202#16, 3, [0x00#8], []⟩ := by decide

/-- V-LS7: `STA $12FF,X` (95_test_vectors.md). -/
theorem test_V_LS7 :
    observed (step (vector 0x0200#16 [0x9D#8, 0xFF#8, 0x12#8]
        [] ⟨0x07#8, 0x01#8, 0x00#8, 0xFD#8, 0x24#8⟩)) [0x1300#16] =
      some ⟨⟨0x07#8, 0x01#8, 0x00#8, 0xFD#8, 0x24#8⟩, 0x0203#16, 5, [0x07#8], []⟩ := by decide

/-- V-LS8: `STA ($20),Y` (95_test_vectors.md). -/
theorem test_V_LS8 :
    observed (step (vector 0x0200#16 [0x91#8, 0x20#8]
        [(0x0020#16, 0xFF#8), (0x0021#16, 0x12#8)] ⟨0x66#8, 0x00#8, 0xFF#8, 0xFD#8, 0x24#8⟩)) [0x13FE#16] =
      some ⟨⟨0x66#8, 0x00#8, 0xFF#8, 0xFD#8, 0x24#8⟩, 0x0202#16, 6, [0x66#8], []⟩ := by decide

/-- V-LS9: `STX $1234` (95_test_vectors.md). -/
theorem test_V_LS9 :
    observed (step (vector 0x0200#16 [0x8E#8, 0x34#8, 0x12#8]
        [] ⟨0x00#8, 0x5A#8, 0x00#8, 0xFD#8, 0x24#8⟩)) [0x1234#16] =
      some ⟨⟨0x00#8, 0x5A#8, 0x00#8, 0xFD#8, 0x24#8⟩, 0x0203#16, 4, [0x5A#8], []⟩ := by decide

/-- V-LS10: `STY $F0,X` (95_test_vectors.md). -/
theorem test_V_LS10 :
    observed (step (vector 0x0200#16 [0x94#8, 0xF0#8]
        [] ⟨0x00#8, 0x20#8, 0x3C#8, 0xFD#8, 0x24#8⟩)) [0x0010#16, 0x0110#16] =
      some ⟨⟨0x00#8, 0x20#8, 0x3C#8, 0xFD#8, 0x24#8⟩, 0x0202#16, 4, [0x3C#8, 0x00#8], []⟩ := by decide

/-- V-LS11: `TAX` (95_test_vectors.md). -/
theorem test_V_LS11 :
    observed (step (vector 0x0200#16 [0xAA#8]
        [] ⟨0x00#8, 0x05#8, 0x00#8, 0xFD#8, 0x24#8⟩)) [] =
      some ⟨⟨0x00#8, 0x00#8, 0x00#8, 0xFD#8, 0x26#8⟩, 0x0201#16, 2, [], []⟩ := by decide

/-- V-LS12: `TAY` (95_test_vectors.md). -/
theorem test_V_LS12 :
    observed (step (vector 0x0200#16 [0xA8#8]
        [] ⟨0x80#8, 0x00#8, 0x00#8, 0xFD#8, 0x24#8⟩)) [] =
      some ⟨⟨0x80#8, 0x00#8, 0x80#8, 0xFD#8, 0xA4#8⟩, 0x0201#16, 2, [], []⟩ := by decide

/-- V-LS13: `TXA` (95_test_vectors.md). -/
theorem test_V_LS13 :
    observed (step (vector 0x0200#16 [0x8A#8]
        [] ⟨0x00#8, 0xFF#8, 0x00#8, 0xFD#8, 0x24#8⟩)) [] =
      some ⟨⟨0xFF#8, 0xFF#8, 0x00#8, 0xFD#8, 0xA4#8⟩, 0x0201#16, 2, [], []⟩ := by decide

/-- V-LS14: `TYA` (95_test_vectors.md). -/
theorem test_V_LS14 :
    observed (step (vector 0x0200#16 [0x98#8]
        [] ⟨0x77#8, 0x00#8, 0x01#8, 0xFD#8, 0x24#8⟩)) [] =
      some ⟨⟨0x01#8, 0x00#8, 0x01#8, 0xFD#8, 0x24#8⟩, 0x0201#16, 2, [], []⟩ := by decide

/-- V-LS15: `TSX` (95_test_vectors.md). -/
theorem test_V_LS15 :
    observed (step (vector 0x0200#16 [0xBA#8]
        [] startRegs)) [] =
      some ⟨⟨0x00#8, 0xFD#8, 0x00#8, 0xFD#8, 0xA4#8⟩, 0x0201#16, 2, [], []⟩ := by decide

/-- V-LS16: `TXS` (95_test_vectors.md). -/
theorem test_V_LS16 :
    observed (step (vector 0x0200#16 [0x9A#8]
        [] ⟨0x00#8, 0x00#8, 0x00#8, 0xFD#8, 0x24#8⟩)) [] =
      some ⟨⟨0x00#8, 0x00#8, 0x00#8, 0x00#8, 0x24#8⟩, 0x0201#16, 2, [], []⟩ := by decide

/-- V-LG1: `AND #$0F` (95_test_vectors.md). -/
theorem test_V_LG1 :
    observed (step (vector 0x0200#16 [0x29#8, 0x0F#8]
        [] ⟨0xF0#8, 0x00#8, 0x00#8, 0xFD#8, 0x24#8⟩)) [] =
      some ⟨⟨0x00#8, 0x00#8, 0x00#8, 0xFD#8, 0x26#8⟩, 0x0202#16, 2, [], []⟩ := by decide

/-- V-LG2: `AND #$C0` (95_test_vectors.md). -/
theorem test_V_LG2 :
    observed (step (vector 0x0200#16 [0x29#8, 0xC0#8]
        [] ⟨0xF0#8, 0x00#8, 0x00#8, 0xFD#8, 0x24#8⟩)) [] =
      some ⟨⟨0xC0#8, 0x00#8, 0x00#8, 0xFD#8, 0xA4#8⟩, 0x0202#16, 2, [], []⟩ := by decide

/-- V-LG3: `ORA #$00` (95_test_vectors.md). -/
theorem test_V_LG3 :
    observed (step (vector 0x0200#16 [0x09#8, 0x00#8]
        [] ⟨0x00#8, 0x00#8, 0x00#8, 0xFD#8, 0x24#8⟩)) [] =
      some ⟨⟨0x00#8, 0x00#8, 0x00#8, 0xFD#8, 0x26#8⟩, 0x0202#16, 2, [], []⟩ := by decide

/-- V-LG4: `ORA #$81` (95_test_vectors.md). -/
theorem test_V_LG4 :
    observed (step (vector 0x0200#16 [0x09#8, 0x81#8]
        [] ⟨0x01#8, 0x00#8, 0x00#8, 0xFD#8, 0x24#8⟩)) [] =
      some ⟨⟨0x81#8, 0x00#8, 0x00#8, 0xFD#8, 0xA4#8⟩, 0x0202#16, 2, [], []⟩ := by decide

/-- V-LG5: `EOR #$FF` (95_test_vectors.md). -/
theorem test_V_LG5 :
    observed (step (vector 0x0200#16 [0x49#8, 0xFF#8]
        [] ⟨0xFF#8, 0x00#8, 0x00#8, 0xFD#8, 0x24#8⟩)) [] =
      some ⟨⟨0x00#8, 0x00#8, 0x00#8, 0xFD#8, 0x26#8⟩, 0x0202#16, 2, [], []⟩ := by decide

/-- V-LG6: `EOR #$80` (95_test_vectors.md). -/
theorem test_V_LG6 :
    observed (step (vector 0x0200#16 [0x49#8, 0x80#8]
        [] ⟨0x7F#8, 0x00#8, 0x00#8, 0xFD#8, 0x24#8⟩)) [] =
      some ⟨⟨0xFF#8, 0x00#8, 0x00#8, 0xFD#8, 0xA4#8⟩, 0x0202#16, 2, [], []⟩ := by decide

/-- V-LG7: `AND ($20),Y` (95_test_vectors.md). -/
theorem test_V_LG7 :
    observed (step (vector 0x0200#16 [0x31#8, 0x20#8]
        [(0x0020#16, 0xFF#8), (0x0021#16, 0x12#8), (0x1300#16, 0x3C#8)] ⟨0xFF#8, 0x00#8, 0x01#8, 0xFD#8, 0x24#8⟩)) [] =
      some ⟨⟨0x3C#8, 0x00#8, 0x01#8, 0xFD#8, 0x24#8⟩, 0x0202#16, 6, [], []⟩ := by decide

/-- V-CP1: `CPX #$10` (95_test_vectors.md). -/
theorem test_V_CP1 :
    observed (step (vector 0x0200#16 [0xE0#8, 0x10#8]
        [] ⟨0x00#8, 0x10#8, 0x00#8, 0xFD#8, 0x24#8⟩)) [] =
      some ⟨⟨0x00#8, 0x10#8, 0x00#8, 0xFD#8, 0x27#8⟩, 0x0202#16, 2, [], []⟩ := by decide

/-- V-CP2: `CPY #$20` (95_test_vectors.md). -/
theorem test_V_CP2 :
    observed (step (vector 0x0200#16 [0xC0#8, 0x20#8]
        [] ⟨0x00#8, 0x00#8, 0x10#8, 0xFD#8, 0x24#8⟩)) [] =
      some ⟨⟨0x00#8, 0x00#8, 0x10#8, 0xFD#8, 0xA4#8⟩, 0x0202#16, 2, [], []⟩ := by decide

/-- V-CP3: `CMP $12FF,X` (95_test_vectors.md). -/
theorem test_V_CP3 :
    observed (step (vector 0x0200#16 [0xDD#8, 0xFF#8, 0x12#8]
        [(0x1300#16, 0x05#8)] ⟨0x05#8, 0x01#8, 0x00#8, 0xFD#8, 0x24#8⟩)) [] =
      some ⟨⟨0x05#8, 0x01#8, 0x00#8, 0xFD#8, 0x27#8⟩, 0x0203#16, 5, [], []⟩ := by decide

/-- V-BT1: `BIT $10` (95_test_vectors.md). -/
theorem test_V_BT1 :
    observed (step (vector 0x0200#16 [0x24#8, 0x10#8]
        [(0x0010#16, 0xC0#8)] ⟨0x00#8, 0x00#8, 0x00#8, 0xFD#8, 0x24#8⟩)) [] =
      some ⟨⟨0x00#8, 0x00#8, 0x00#8, 0xFD#8, 0xE6#8⟩, 0x0202#16, 3, [], []⟩ := by decide

/-- V-BT2: `BIT $10` (95_test_vectors.md). -/
theorem test_V_BT2 :
    observed (step (vector 0x0200#16 [0x24#8, 0x10#8]
        [(0x0010#16, 0x3F#8)] ⟨0xFF#8, 0x00#8, 0x00#8, 0xFD#8, 0x24#8⟩)) [] =
      some ⟨⟨0xFF#8, 0x00#8, 0x00#8, 0xFD#8, 0x24#8⟩, 0x0202#16, 3, [], []⟩ := by decide

/-- V-BT3: `BIT $1234` (95_test_vectors.md). -/
theorem test_V_BT3 :
    observed (step (vector 0x0200#16 [0x2C#8, 0x34#8, 0x12#8]
        [(0x1234#16, 0x81#8)] ⟨0x01#8, 0x00#8, 0x00#8, 0xFD#8, 0x64#8⟩)) [] =
      some ⟨⟨0x01#8, 0x00#8, 0x00#8, 0xFD#8, 0xA4#8⟩, 0x0203#16, 4, [], []⟩ := by decide

/-- V-AR1: `SBC #$01` (95_test_vectors.md). -/
theorem test_V_AR1 :
    observed (step (vector 0x0200#16 [0xE9#8, 0x01#8]
        [] ⟨0x00#8, 0x00#8, 0x00#8, 0xFD#8, 0x25#8⟩)) [] =
      some ⟨⟨0xFF#8, 0x00#8, 0x00#8, 0xFD#8, 0xA4#8⟩, 0x0202#16, 2, [], []⟩ := by decide

/-- V-AR2: `ADC $12FF,Y` (95_test_vectors.md). -/
theorem test_V_AR2 :
    observed (step (vector 0x0200#16 [0x79#8, 0xFF#8, 0x12#8]
        [(0x1300#16, 0x01#8)] ⟨0x01#8, 0x00#8, 0x01#8, 0xFD#8, 0x24#8⟩)) [] =
      some ⟨⟨0x02#8, 0x00#8, 0x01#8, 0xFD#8, 0x24#8⟩, 0x0203#16, 5, [], []⟩ := by decide

/-- V-AR3: `ADC #$01` (95_test_vectors.md). -/
theorem test_V_AR3 :
    observed (step (vector 0x0200#16 [0x69#8, 0x01#8]
        [] ⟨0x09#8, 0x00#8, 0x00#8, 0xFD#8, 0x2C#8⟩)) [] =
      some ⟨⟨0x0A#8, 0x00#8, 0x00#8, 0xFD#8, 0x2C#8⟩, 0x0202#16, 4, [], []⟩ := by decide

/-- V-SH1: `ASL $10` (95_test_vectors.md). -/
theorem test_V_SH1 :
    observed (step (vector 0x0200#16 [0x06#8, 0x10#8]
        [(0x0010#16, 0xC0#8)] startRegs)) [0x0010#16] =
      some ⟨⟨0x00#8, 0x00#8, 0x00#8, 0xFD#8, 0xA5#8⟩, 0x0202#16, 5, [0x80#8], []⟩ := by decide

/-- V-SH2: `LSR $10` (95_test_vectors.md). -/
theorem test_V_SH2 :
    observed (step (vector 0x0200#16 [0x46#8, 0x10#8]
        [(0x0010#16, 0x01#8)] startRegs)) [0x0010#16] =
      some ⟨⟨0x00#8, 0x00#8, 0x00#8, 0xFD#8, 0x27#8⟩, 0x0202#16, 5, [0x00#8], []⟩ := by decide

/-- V-SH3: `ROL $10` (95_test_vectors.md). -/
theorem test_V_SH3 :
    observed (step (vector 0x0200#16 [0x26#8, 0x10#8]
        [(0x0010#16, 0x80#8)] ⟨0x00#8, 0x00#8, 0x00#8, 0xFD#8, 0x25#8⟩)) [0x0010#16] =
      some ⟨⟨0x00#8, 0x00#8, 0x00#8, 0xFD#8, 0x25#8⟩, 0x0202#16, 5, [0x01#8], []⟩ := by decide

/-- V-SH4: `ROR $1234,X` (95_test_vectors.md). -/
theorem test_V_SH4 :
    observed (step (vector 0x0200#16 [0x7E#8, 0x34#8, 0x12#8]
        [(0x1235#16, 0x01#8)] ⟨0x00#8, 0x01#8, 0x00#8, 0xFD#8, 0x24#8⟩)) [0x1235#16] =
      some ⟨⟨0x00#8, 0x01#8, 0x00#8, 0xFD#8, 0x27#8⟩, 0x0203#16, 7, [0x00#8], []⟩ := by decide

/-- V-SH5: `ASL $12FF,X` (95_test_vectors.md). -/
theorem test_V_SH5 :
    observed (step (vector 0x0200#16 [0x1E#8, 0xFF#8, 0x12#8]
        [(0x1300#16, 0x81#8)] ⟨0x00#8, 0x01#8, 0x00#8, 0xFD#8, 0x24#8⟩)) [0x1300#16] =
      some ⟨⟨0x00#8, 0x01#8, 0x00#8, 0xFD#8, 0x25#8⟩, 0x0203#16, 7, [0x02#8], []⟩ := by decide

/-- V-ID1: `INC $10` (95_test_vectors.md). -/
theorem test_V_ID1 :
    observed (step (vector 0x0200#16 [0xE6#8, 0x10#8]
        [(0x0010#16, 0xFF#8)] startRegs)) [0x0010#16] =
      some ⟨⟨0x00#8, 0x00#8, 0x00#8, 0xFD#8, 0x26#8⟩, 0x0202#16, 5, [0x00#8], []⟩ := by decide

/-- V-ID2: `INC $10` (95_test_vectors.md). -/
theorem test_V_ID2 :
    observed (step (vector 0x0200#16 [0xE6#8, 0x10#8]
        [(0x0010#16, 0x7F#8)] startRegs)) [0x0010#16] =
      some ⟨⟨0x00#8, 0x00#8, 0x00#8, 0xFD#8, 0xA4#8⟩, 0x0202#16, 5, [0x80#8], []⟩ := by decide

/-- V-ID3: `INC $12FF,X` (95_test_vectors.md). -/
theorem test_V_ID3 :
    observed (step (vector 0x0200#16 [0xFE#8, 0xFF#8, 0x12#8]
        [(0x1300#16, 0x41#8)] ⟨0x00#8, 0x01#8, 0x00#8, 0xFD#8, 0x24#8⟩)) [0x1300#16] =
      some ⟨⟨0x00#8, 0x01#8, 0x00#8, 0xFD#8, 0x24#8⟩, 0x0203#16, 7, [0x42#8], []⟩ := by decide

/-- V-ID4: `DEC $10` (95_test_vectors.md). -/
theorem test_V_ID4 :
    observed (step (vector 0x0200#16 [0xC6#8, 0x10#8]
        [(0x0010#16, 0x00#8)] startRegs)) [0x0010#16] =
      some ⟨⟨0x00#8, 0x00#8, 0x00#8, 0xFD#8, 0xA4#8⟩, 0x0202#16, 5, [0xFF#8], []⟩ := by decide

/-- V-ID5: `DEC $10` (95_test_vectors.md). -/
theorem test_V_ID5 :
    observed (step (vector 0x0200#16 [0xC6#8, 0x10#8]
        [(0x0010#16, 0x01#8)] startRegs)) [0x0010#16] =
      some ⟨⟨0x00#8, 0x00#8, 0x00#8, 0xFD#8, 0x26#8⟩, 0x0202#16, 5, [0x00#8], []⟩ := by decide

/-- V-ID6: `INX` (95_test_vectors.md). -/
theorem test_V_ID6 :
    observed (step (vector 0x0200#16 [0xE8#8]
        [] ⟨0x00#8, 0xFF#8, 0x00#8, 0xFD#8, 0x24#8⟩)) [] =
      some ⟨⟨0x00#8, 0x00#8, 0x00#8, 0xFD#8, 0x26#8⟩, 0x0201#16, 2, [], []⟩ := by decide

/-- V-ID7: `INY` (95_test_vectors.md). -/
theorem test_V_ID7 :
    observed (step (vector 0x0200#16 [0xC8#8]
        [] ⟨0x00#8, 0x00#8, 0x7F#8, 0xFD#8, 0x24#8⟩)) [] =
      some ⟨⟨0x00#8, 0x00#8, 0x80#8, 0xFD#8, 0xA4#8⟩, 0x0201#16, 2, [], []⟩ := by decide

/-- V-ID8: `DEX` (95_test_vectors.md). -/
theorem test_V_ID8 :
    observed (step (vector 0x0200#16 [0xCA#8]
        [] ⟨0x00#8, 0x00#8, 0x00#8, 0xFD#8, 0x24#8⟩)) [] =
      some ⟨⟨0x00#8, 0xFF#8, 0x00#8, 0xFD#8, 0xA4#8⟩, 0x0201#16, 2, [], []⟩ := by decide

/-- V-ID9: `DEY` (95_test_vectors.md). -/
theorem test_V_ID9 :
    observed (step (vector 0x0200#16 [0x88#8]
        [] ⟨0x00#8, 0x00#8, 0x01#8, 0xFD#8, 0x24#8⟩)) [] =
      some ⟨⟨0x00#8, 0x00#8, 0x00#8, 0xFD#8, 0x26#8⟩, 0x0201#16, 2, [], []⟩ := by decide

/-- V-BR1: `BCC *+7` (95_test_vectors.md). -/
theorem test_V_BR1 :
    observed (step (vector 0x0200#16 [0x90#8, 0x05#8]
        [] startRegs)) [] =
      some ⟨⟨0x00#8, 0x00#8, 0x00#8, 0xFD#8, 0x24#8⟩, 0x0207#16, 3, [], []⟩ := by decide

/-- V-BR2: `BCC *+7` (95_test_vectors.md). -/
theorem test_V_BR2 :
    observed (step (vector 0x0200#16 [0x90#8, 0x05#8]
        [] ⟨0x00#8, 0x00#8, 0x00#8, 0xFD#8, 0x25#8⟩)) [] =
      some ⟨⟨0x00#8, 0x00#8, 0x00#8, 0xFD#8, 0x25#8⟩, 0x0202#16, 2, [], []⟩ := by decide

/-- V-BR3: `BCS *+0` (95_test_vectors.md). -/
theorem test_V_BR3 :
    observed (step (vector 0x0200#16 [0xB0#8, 0xFE#8]
        [] ⟨0x00#8, 0x00#8, 0x00#8, 0xFD#8, 0x25#8⟩)) [] =
      some ⟨⟨0x00#8, 0x00#8, 0x00#8, 0xFD#8, 0x25#8⟩, 0x0200#16, 3, [], []⟩ := by decide

/-- V-BR5: `BMI *-1` (95_test_vectors.md). -/
theorem test_V_BR5 :
    observed (step (vector 0x0200#16 [0x30#8, 0xFD#8]
        [] ⟨0x00#8, 0x00#8, 0x00#8, 0xFD#8, 0xA4#8⟩)) [] =
      some ⟨⟨0x00#8, 0x00#8, 0x00#8, 0xFD#8, 0xA4#8⟩, 0x01FF#16, 4, [], []⟩ := by decide

/-- V-BR6: `BNE *-126` (95_test_vectors.md). -/
theorem test_V_BR6 :
    observed (step (vector 0x0200#16 [0xD0#8, 0x80#8]
        [] startRegs)) [] =
      some ⟨⟨0x00#8, 0x00#8, 0x00#8, 0xFD#8, 0x24#8⟩, 0x0182#16, 4, [], []⟩ := by decide

/-- V-BR7: `BNE *+4` (95_test_vectors.md). -/
theorem test_V_BR7 :
    observed (step (vector 0x02FC#16 [0xD0#8, 0x02#8]
        [] startRegs)) [] =
      some ⟨⟨0x00#8, 0x00#8, 0x00#8, 0xFD#8, 0x24#8⟩, 0x0300#16, 4, [], []⟩ := by decide

/-- V-BR9: `BEQ *+3` (95_test_vectors.md). -/
theorem test_V_BR9 :
    observed (step (vector 0x02FD#16 [0xF0#8, 0x01#8]
        [] ⟨0x00#8, 0x00#8, 0x00#8, 0xFD#8, 0x26#8⟩)) [] =
      some ⟨⟨0x00#8, 0x00#8, 0x00#8, 0xFD#8, 0x26#8⟩, 0x0300#16, 4, [], []⟩ := by decide

/-- V-BR10: `BPL *+2` (95_test_vectors.md). -/
theorem test_V_BR10 :
    observed (step (vector 0x0200#16 [0x10#8, 0x00#8]
        [] startRegs)) [] =
      some ⟨⟨0x00#8, 0x00#8, 0x00#8, 0xFD#8, 0x24#8⟩, 0x0202#16, 3, [], []⟩ := by decide

/-- V-BR11: `BVC *+18` (95_test_vectors.md). -/
theorem test_V_BR11 :
    observed (step (vector 0x0200#16 [0x50#8, 0x10#8]
        [] startRegs)) [] =
      some ⟨⟨0x00#8, 0x00#8, 0x00#8, 0xFD#8, 0x24#8⟩, 0x0212#16, 3, [], []⟩ := by decide

/-- V-BR12: `BVS *+18` (95_test_vectors.md). -/
theorem test_V_BR12 :
    observed (step (vector 0x0200#16 [0x70#8, 0x10#8]
        [] startRegs)) [] =
      some ⟨⟨0x00#8, 0x00#8, 0x00#8, 0xFD#8, 0x24#8⟩, 0x0202#16, 2, [], []⟩ := by decide

/-- V-BR13: `BEQ *+18` (95_test_vectors.md). -/
theorem test_V_BR13 :
    observed (step (vector 0x80F0#16 [0xF0#8, 0x10#8]
        [] ⟨0x00#8, 0x00#8, 0x00#8, 0xFD#8, 0x26#8⟩)) [] =
      some ⟨⟨0x00#8, 0x00#8, 0x00#8, 0xFD#8, 0x26#8⟩, 0x8102#16, 4, [], []⟩ := by decide

/-- V-JM1: `JMP $1234` (95_test_vectors.md). -/
theorem test_V_JM1 :
    observed (step (vector 0x0200#16 [0x4C#8, 0x34#8, 0x12#8]
        [] startRegs)) [] =
      some ⟨⟨0x00#8, 0x00#8, 0x00#8, 0xFD#8, 0x24#8⟩, 0x1234#16, 3, [], []⟩ := by decide

/-- V-JS1: `JSR $9000` (95_test_vectors.md). -/
theorem test_V_JS1 :
    observed (step (vector 0x8003#16 [0x20#8, 0x00#8, 0x90#8]
        [] startRegs)) [0x01FD#16, 0x01FC#16] =
      some ⟨⟨0x00#8, 0x00#8, 0x00#8, 0xFB#8, 0x24#8⟩, 0x9000#16, 6, [0x80#8, 0x05#8], []⟩ := by decide

/-- V-JS3: `JSR $1234` (95_test_vectors.md). -/
theorem test_V_JS3 :
    observed (step (vector 0xFFFE#16 [0x20#8, 0x34#8, 0x12#8]
        [] startRegs)) [0x01FD#16, 0x01FC#16] =
      some ⟨⟨0x00#8, 0x00#8, 0x00#8, 0xFB#8, 0x24#8⟩, 0x1234#16, 6, [0x00#8, 0x00#8], []⟩ := by decide

/-- V-RT1: `RTS` (95_test_vectors.md). -/
theorem test_V_RT1 :
    observed (step (vector 0x9000#16 [0x60#8]
        [(0x01FC#16, 0x05#8), (0x01FD#16, 0x80#8)] ⟨0x00#8, 0x00#8, 0x00#8, 0xFB#8, 0x24#8⟩)) [] =
      some ⟨⟨0x00#8, 0x00#8, 0x00#8, 0xFD#8, 0x24#8⟩, 0x8006#16, 6, [], []⟩ := by decide

/-- V-RT2: `RTS` (95_test_vectors.md). -/
theorem test_V_RT2 :
    observed (step (vector 0x0200#16 [0x60#8]
        [(0x0100#16, 0x34#8), (0x01FF#16, 0x12#8)] ⟨0x00#8, 0x00#8, 0x00#8, 0xFE#8, 0x24#8⟩)) [] =
      some ⟨⟨0x00#8, 0x00#8, 0x00#8, 0x00#8, 0x24#8⟩, 0x3413#16, 6, [], []⟩ := by decide

/-- V-ST1: `PHA` (95_test_vectors.md). -/
theorem test_V_ST1 :
    observed (step (vector 0x0200#16 [0x48#8]
        [] ⟨0x15#8, 0x00#8, 0x00#8, 0xFD#8, 0x24#8⟩)) [0x01FD#16] =
      some ⟨⟨0x15#8, 0x00#8, 0x00#8, 0xFC#8, 0x24#8⟩, 0x0201#16, 3, [0x15#8], []⟩ := by decide

/-- V-ST2: `PHA` (95_test_vectors.md). -/
theorem test_V_ST2 :
    observed (step (vector 0x0200#16 [0x48#8]
        [] ⟨0xAB#8, 0x00#8, 0x00#8, 0x00#8, 0x24#8⟩)) [0x0100#16] =
      some ⟨⟨0xAB#8, 0x00#8, 0x00#8, 0xFF#8, 0x24#8⟩, 0x0201#16, 3, [0xAB#8], []⟩ := by decide

/-- V-ST3: `PHP` (95_test_vectors.md). -/
theorem test_V_ST3 :
    observed (step (vector 0x0200#16 [0x08#8]
        [] ⟨0x00#8, 0x00#8, 0x00#8, 0xFD#8, 0xE7#8⟩)) [0x01FD#16] =
      some ⟨⟨0x00#8, 0x00#8, 0x00#8, 0xFC#8, 0xE7#8⟩, 0x0201#16, 3, [0xF7#8], []⟩ := by decide

/-- V-ST4: `PHP` (95_test_vectors.md). -/
theorem test_V_ST4 :
    observed (step (vector 0x0200#16 [0x08#8]
        [] startRegs)) [0x01FD#16] =
      some ⟨⟨0x00#8, 0x00#8, 0x00#8, 0xFC#8, 0x24#8⟩, 0x0201#16, 3, [0x34#8], []⟩ := by decide

/-- V-ST5: `PLA` (95_test_vectors.md). -/
theorem test_V_ST5 :
    observed (step (vector 0x0200#16 [0x68#8]
        [(0x01FD#16, 0x80#8)] ⟨0x00#8, 0x00#8, 0x00#8, 0xFC#8, 0x24#8⟩)) [] =
      some ⟨⟨0x80#8, 0x00#8, 0x00#8, 0xFD#8, 0xA4#8⟩, 0x0201#16, 4, [], []⟩ := by decide

/-- V-ST6: `PLA` (95_test_vectors.md). -/
theorem test_V_ST6 :
    observed (step (vector 0x0200#16 [0x68#8]
        [(0x0100#16, 0x00#8)] ⟨0x00#8, 0x00#8, 0x00#8, 0xFF#8, 0x24#8⟩)) [] =
      some ⟨⟨0x00#8, 0x00#8, 0x00#8, 0x00#8, 0x26#8⟩, 0x0201#16, 4, [], []⟩ := by decide

/-- V-ST7: `PLP` (95_test_vectors.md). -/
theorem test_V_ST7 :
    observed (step (vector 0x0200#16 [0x28#8]
        [(0x01FD#16, 0x00#8)] ⟨0x00#8, 0x00#8, 0x00#8, 0xFC#8, 0x24#8⟩)) [] =
      some ⟨⟨0x00#8, 0x00#8, 0x00#8, 0xFD#8, 0x20#8⟩, 0x0201#16, 4, [], []⟩ := by decide

/-- V-ST8: `PLP` (95_test_vectors.md). -/
theorem test_V_ST8 :
    observed (step (vector 0x0200#16 [0x28#8]
        [(0x01FD#16, 0xFF#8)] ⟨0x00#8, 0x00#8, 0x00#8, 0xFC#8, 0x24#8⟩)) [] =
      some ⟨⟨0x00#8, 0x00#8, 0x00#8, 0xFD#8, 0xFF#8⟩, 0x0201#16, 4, [], []⟩ := by decide

/-- V-FL1: `CLC` (95_test_vectors.md). -/
theorem test_V_FL1 :
    observed (step (vector 0x0200#16 [0x18#8]
        [] ⟨0x00#8, 0x00#8, 0x00#8, 0xFD#8, 0x25#8⟩)) [] =
      some ⟨⟨0x00#8, 0x00#8, 0x00#8, 0xFD#8, 0x24#8⟩, 0x0201#16, 2, [], []⟩ := by decide

/-- V-FL2: `CLD` (95_test_vectors.md). -/
theorem test_V_FL2 :
    observed (step (vector 0x0200#16 [0xD8#8]
        [] ⟨0x00#8, 0x00#8, 0x00#8, 0xFD#8, 0x2C#8⟩)) [] =
      some ⟨⟨0x00#8, 0x00#8, 0x00#8, 0xFD#8, 0x24#8⟩, 0x0201#16, 2, [], []⟩ := by decide

/-- V-FL3: `CLI` (95_test_vectors.md). -/
theorem test_V_FL3 :
    observed (step (vector 0x0200#16 [0x58#8]
        [] startRegs)) [] =
      some ⟨⟨0x00#8, 0x00#8, 0x00#8, 0xFD#8, 0x20#8⟩, 0x0201#16, 2, [], []⟩ := by decide

/-- V-FL4: `CLV` (95_test_vectors.md). -/
theorem test_V_FL4 :
    observed (step (vector 0x0200#16 [0xB8#8]
        [] ⟨0x00#8, 0x00#8, 0x00#8, 0xFD#8, 0x64#8⟩)) [] =
      some ⟨⟨0x00#8, 0x00#8, 0x00#8, 0xFD#8, 0x24#8⟩, 0x0201#16, 2, [], []⟩ := by decide

/-- V-FL5: `SEC` (95_test_vectors.md). -/
theorem test_V_FL5 :
    observed (step (vector 0x0200#16 [0x38#8]
        [] startRegs)) [] =
      some ⟨⟨0x00#8, 0x00#8, 0x00#8, 0xFD#8, 0x25#8⟩, 0x0201#16, 2, [], []⟩ := by decide

/-- V-FL6: `SED` (95_test_vectors.md). -/
theorem test_V_FL6 :
    observed (step (vector 0x0200#16 [0xF8#8]
        [] startRegs)) [] =
      some ⟨⟨0x00#8, 0x00#8, 0x00#8, 0xFD#8, 0x2C#8⟩, 0x0201#16, 2, [], []⟩ := by decide

/-- V-FL7: `SEI` (95_test_vectors.md). -/
theorem test_V_FL7 :
    observed (step (vector 0x0200#16 [0x78#8]
        [] ⟨0x00#8, 0x00#8, 0x00#8, 0xFD#8, 0x20#8⟩)) [] =
      some ⟨⟨0x00#8, 0x00#8, 0x00#8, 0xFD#8, 0x24#8⟩, 0x0201#16, 2, [], []⟩ := by decide

/-- V-NP1: `NOP` (95_test_vectors.md). -/
theorem test_V_NP1 :
    observed (step (vector 0x0200#16 [0xEA#8]
        [] startRegs)) [] =
      some ⟨⟨0x00#8, 0x00#8, 0x00#8, 0xFD#8, 0x24#8⟩, 0x0201#16, 2, [], []⟩ := by decide

/-- V-BK1: `BRK` (95_test_vectors.md). -/
theorem test_V_BK1 :
    observed (step (vector 0x0200#16 [0x00#8, 0x00#8]
        [(0xFFFE#16, 0x00#8), (0xFFFF#16, 0x40#8)] ⟨0x00#8, 0x00#8, 0x00#8, 0xFD#8, 0xA1#8⟩)) [0x01FD#16, 0x01FC#16, 0x01FB#16] =
      some ⟨⟨0x00#8, 0x00#8, 0x00#8, 0xFA#8, 0xA5#8⟩, 0x4000#16, 7, [0x02#8, 0x02#8, 0xB1#8], []⟩ := by decide

/-- V-BK2: `BRK` (95_test_vectors.md). -/
theorem test_V_BK2 :
    observed (step (vector 0xFFFF#16 [0x00#8]
        [(0xFFFE#16, 0x00#8), (0xFFFF#16, 0x40#8)] startRegs)) [0x01FD#16, 0x01FC#16, 0x01FB#16] =
      some ⟨⟨0x00#8, 0x00#8, 0x00#8, 0xFA#8, 0x24#8⟩, 0x0000#16, 7, [0x00#8, 0x01#8, 0x34#8], []⟩ := by decide

/-- V-RI2: `RTI` (95_test_vectors.md). -/
theorem test_V_RI2 :
    observed (step (vector 0x0200#16 [0x40#8]
        [(0x01FB#16, 0xC3#8), (0x01FC#16, 0x07#8), (0x01FD#16, 0x80#8)] ⟨0x00#8, 0x00#8, 0x00#8, 0xFA#8, 0x24#8⟩)) [] =
      some ⟨⟨0x00#8, 0x00#8, 0x00#8, 0xFD#8, 0xE3#8⟩, 0x8007#16, 6, [], []⟩ := by decide

/-- V-RI3: `RTI` (95_test_vectors.md). -/
theorem test_V_RI3 :
    observed (step (vector 0x0200#16 [0x40#8]
        [(0x01FB#16, 0x34#8), (0x01FC#16, 0x07#8), (0x01FD#16, 0x80#8)] ⟨0x00#8, 0x00#8, 0x00#8, 0xFA#8, 0x24#8⟩)) [] =
      some ⟨⟨0x00#8, 0x00#8, 0x00#8, 0xFD#8, 0x34#8⟩, 0x8007#16, 6, [], []⟩ := by decide

/-- V-UN1: `(empty slot 0x02)` (95_test_vectors.md). -/
theorem test_V_UN1 :
    observed (step (vector 0x0200#16 [0x02#8]
        [] startRegs)) [] =
      some ⟨⟨0x00#8, 0x00#8, 0x00#8, 0xFD#8, 0x24#8⟩, 0x0201#16, 2, [], [⟨0x02#8, 0x0200#16⟩]⟩ := by decide

/-- V-UN2: `(empty slot 0xFF)` (95_test_vectors.md). -/
theorem test_V_UN2 :
    observed (step (vector 0x0200#16 [0xFF#8]
        [] ⟨0x12#8, 0x00#8, 0x00#8, 0xFD#8, 0xE7#8⟩)) [] =
      some ⟨⟨0x12#8, 0x00#8, 0x00#8, 0xFD#8, 0xE7#8⟩, 0x0201#16, 2, [], [⟨0xFF#8, 0x0200#16⟩]⟩ := by decide

/-! ## Decoding, row by row (30_encoding.md R81, R83, R87, R88) -/

/-- Does a mode report a page crossing (40_addressing.md R112)? -/
def detectsCrossing (o : Operand) : Bool :=
  match o with
  | .absoluteX _ => true
  | .absoluteY _ => true
  | .indirectY _ => true
  | _ => false

/-- One row of the table of R87: the bytes decode to `i`, of that mnemonic and mode, with that base
cost, and a page crossing costs a cycle or not. -/
def rowReads (bytes : List Byte) (i : Instr) (m : Mnemonic) (o : Operand) (base : Nat)
    (pays : Bool) : Bool :=
  decide (decode bytes = .ok i []) && decide (i.mnemonic = m) && decide (i.operand = o) &&
  decide (i.length = bytes.length) && decide (baseCycles (bytes.headD 0#8) = base) &&
  decide ((detectsCrossing o && decide (pagePenalty m true = 1)) = pays)

/-- The documented opcodes 0x00 to 0x0F. -/
theorem test_decode_slots_0 :
    [rowReads [0x00#8] .brk .BRK .implied 7 false,
      rowReads [0x01#8, 0x34#8] (.oraIndX 0x34#8) .ORA (.indirectX 0x34#8) 6 false,
      rowReads [0x05#8, 0x34#8] (.oraZp 0x34#8) .ORA (.zeroPage 0x34#8) 3 false,
      rowReads [0x06#8, 0x34#8] (.aslZp 0x34#8) .ASL (.zeroPage 0x34#8) 5 false,
      rowReads [0x08#8] .php .PHP .implied 3 false,
      rowReads [0x09#8, 0x34#8] (.oraImm 0x34#8) .ORA (.immediate 0x34#8) 2 false,
      rowReads [0x0A#8] .aslAcc .ASL .accumulator 2 false,
      rowReads [0x0D#8, 0x34#8, 0x12#8] (.oraAbs 0x1234#16) .ORA (.absolute 0x1234#16) 4 false,
      rowReads [0x0E#8, 0x34#8, 0x12#8] (.aslAbs 0x1234#16) .ASL (.absolute 0x1234#16) 6 false].all id = true := by decide

/-- The documented opcodes 0x10 to 0x1F. -/
theorem test_decode_slots_1 :
    [rowReads [0x10#8, 0x34#8] (.bpl 0x34#8) .BPL (.relative 0x34#8) 2 false,
      rowReads [0x11#8, 0x34#8] (.oraIndY 0x34#8) .ORA (.indirectY 0x34#8) 5 true,
      rowReads [0x15#8, 0x34#8] (.oraZpX 0x34#8) .ORA (.zeroPageX 0x34#8) 4 false,
      rowReads [0x16#8, 0x34#8] (.aslZpX 0x34#8) .ASL (.zeroPageX 0x34#8) 6 false,
      rowReads [0x18#8] .clc .CLC .implied 2 false,
      rowReads [0x19#8, 0x34#8, 0x12#8] (.oraAbsY 0x1234#16) .ORA (.absoluteY 0x1234#16) 4 true,
      rowReads [0x1D#8, 0x34#8, 0x12#8] (.oraAbsX 0x1234#16) .ORA (.absoluteX 0x1234#16) 4 true,
      rowReads [0x1E#8, 0x34#8, 0x12#8] (.aslAbsX 0x1234#16) .ASL (.absoluteX 0x1234#16) 7 false].all id = true := by decide

/-- The documented opcodes 0x20 to 0x2F. -/
theorem test_decode_slots_2 :
    [rowReads [0x20#8, 0x34#8, 0x12#8] (.jsr 0x1234#16) .JSR (.absolute 0x1234#16) 6 false,
      rowReads [0x21#8, 0x34#8] (.andIndX 0x34#8) .AND (.indirectX 0x34#8) 6 false,
      rowReads [0x24#8, 0x34#8] (.bitZp 0x34#8) .BIT (.zeroPage 0x34#8) 3 false,
      rowReads [0x25#8, 0x34#8] (.andZp 0x34#8) .AND (.zeroPage 0x34#8) 3 false,
      rowReads [0x26#8, 0x34#8] (.rolZp 0x34#8) .ROL (.zeroPage 0x34#8) 5 false,
      rowReads [0x28#8] .plp .PLP .implied 4 false,
      rowReads [0x29#8, 0x34#8] (.andImm 0x34#8) .AND (.immediate 0x34#8) 2 false,
      rowReads [0x2A#8] .rolAcc .ROL .accumulator 2 false,
      rowReads [0x2C#8, 0x34#8, 0x12#8] (.bitAbs 0x1234#16) .BIT (.absolute 0x1234#16) 4 false,
      rowReads [0x2D#8, 0x34#8, 0x12#8] (.andAbs 0x1234#16) .AND (.absolute 0x1234#16) 4 false,
      rowReads [0x2E#8, 0x34#8, 0x12#8] (.rolAbs 0x1234#16) .ROL (.absolute 0x1234#16) 6 false].all id = true := by decide

/-- The documented opcodes 0x30 to 0x3F. -/
theorem test_decode_slots_3 :
    [rowReads [0x30#8, 0x34#8] (.bmi 0x34#8) .BMI (.relative 0x34#8) 2 false,
      rowReads [0x31#8, 0x34#8] (.andIndY 0x34#8) .AND (.indirectY 0x34#8) 5 true,
      rowReads [0x35#8, 0x34#8] (.andZpX 0x34#8) .AND (.zeroPageX 0x34#8) 4 false,
      rowReads [0x36#8, 0x34#8] (.rolZpX 0x34#8) .ROL (.zeroPageX 0x34#8) 6 false,
      rowReads [0x38#8] .sec .SEC .implied 2 false,
      rowReads [0x39#8, 0x34#8, 0x12#8] (.andAbsY 0x1234#16) .AND (.absoluteY 0x1234#16) 4 true,
      rowReads [0x3D#8, 0x34#8, 0x12#8] (.andAbsX 0x1234#16) .AND (.absoluteX 0x1234#16) 4 true,
      rowReads [0x3E#8, 0x34#8, 0x12#8] (.rolAbsX 0x1234#16) .ROL (.absoluteX 0x1234#16) 7 false].all id = true := by decide

/-- The documented opcodes 0x40 to 0x4F. -/
theorem test_decode_slots_4 :
    [rowReads [0x40#8] .rti .RTI .implied 6 false,
      rowReads [0x41#8, 0x34#8] (.eorIndX 0x34#8) .EOR (.indirectX 0x34#8) 6 false,
      rowReads [0x45#8, 0x34#8] (.eorZp 0x34#8) .EOR (.zeroPage 0x34#8) 3 false,
      rowReads [0x46#8, 0x34#8] (.lsrZp 0x34#8) .LSR (.zeroPage 0x34#8) 5 false,
      rowReads [0x48#8] .pha .PHA .implied 3 false,
      rowReads [0x49#8, 0x34#8] (.eorImm 0x34#8) .EOR (.immediate 0x34#8) 2 false,
      rowReads [0x4A#8] .lsrAcc .LSR .accumulator 2 false,
      rowReads [0x4C#8, 0x34#8, 0x12#8] (.jmpAbs 0x1234#16) .JMP (.absolute 0x1234#16) 3 false,
      rowReads [0x4D#8, 0x34#8, 0x12#8] (.eorAbs 0x1234#16) .EOR (.absolute 0x1234#16) 4 false,
      rowReads [0x4E#8, 0x34#8, 0x12#8] (.lsrAbs 0x1234#16) .LSR (.absolute 0x1234#16) 6 false].all id = true := by decide

/-- The documented opcodes 0x50 to 0x5F. -/
theorem test_decode_slots_5 :
    [rowReads [0x50#8, 0x34#8] (.bvc 0x34#8) .BVC (.relative 0x34#8) 2 false,
      rowReads [0x51#8, 0x34#8] (.eorIndY 0x34#8) .EOR (.indirectY 0x34#8) 5 true,
      rowReads [0x55#8, 0x34#8] (.eorZpX 0x34#8) .EOR (.zeroPageX 0x34#8) 4 false,
      rowReads [0x56#8, 0x34#8] (.lsrZpX 0x34#8) .LSR (.zeroPageX 0x34#8) 6 false,
      rowReads [0x58#8] .cli .CLI .implied 2 false,
      rowReads [0x59#8, 0x34#8, 0x12#8] (.eorAbsY 0x1234#16) .EOR (.absoluteY 0x1234#16) 4 true,
      rowReads [0x5D#8, 0x34#8, 0x12#8] (.eorAbsX 0x1234#16) .EOR (.absoluteX 0x1234#16) 4 true,
      rowReads [0x5E#8, 0x34#8, 0x12#8] (.lsrAbsX 0x1234#16) .LSR (.absoluteX 0x1234#16) 7 false].all id = true := by decide

/-- The documented opcodes 0x60 to 0x6F. -/
theorem test_decode_slots_6 :
    [rowReads [0x60#8] .rts .RTS .implied 6 false,
      rowReads [0x61#8, 0x34#8] (.adcIndX 0x34#8) .ADC (.indirectX 0x34#8) 6 false,
      rowReads [0x65#8, 0x34#8] (.adcZp 0x34#8) .ADC (.zeroPage 0x34#8) 3 false,
      rowReads [0x66#8, 0x34#8] (.rorZp 0x34#8) .ROR (.zeroPage 0x34#8) 5 false,
      rowReads [0x68#8] .pla .PLA .implied 4 false,
      rowReads [0x69#8, 0x34#8] (.adcImm 0x34#8) .ADC (.immediate 0x34#8) 4 false,
      rowReads [0x6A#8] .rorAcc .ROR .accumulator 2 false,
      rowReads [0x6C#8, 0x34#8, 0x12#8] (.jmpInd 0x1234#16) .JMP (.absoluteIndirect 0x1234#16) 5 false,
      rowReads [0x6D#8, 0x34#8, 0x12#8] (.adcAbs 0x1234#16) .ADC (.absolute 0x1234#16) 4 false,
      rowReads [0x6E#8, 0x34#8, 0x12#8] (.rorAbs 0x1234#16) .ROR (.absolute 0x1234#16) 6 false].all id = true := by decide

/-- The documented opcodes 0x70 to 0x7F. -/
theorem test_decode_slots_7 :
    [rowReads [0x70#8, 0x34#8] (.bvs 0x34#8) .BVS (.relative 0x34#8) 2 false,
      rowReads [0x71#8, 0x34#8] (.adcIndY 0x34#8) .ADC (.indirectY 0x34#8) 5 true,
      rowReads [0x75#8, 0x34#8] (.adcZpX 0x34#8) .ADC (.zeroPageX 0x34#8) 4 false,
      rowReads [0x76#8, 0x34#8] (.rorZpX 0x34#8) .ROR (.zeroPageX 0x34#8) 6 false,
      rowReads [0x78#8] .sei .SEI .implied 2 false,
      rowReads [0x79#8, 0x34#8, 0x12#8] (.adcAbsY 0x1234#16) .ADC (.absoluteY 0x1234#16) 4 true,
      rowReads [0x7D#8, 0x34#8, 0x12#8] (.adcAbsX 0x1234#16) .ADC (.absoluteX 0x1234#16) 4 true,
      rowReads [0x7E#8, 0x34#8, 0x12#8] (.rorAbsX 0x1234#16) .ROR (.absoluteX 0x1234#16) 7 false].all id = true := by decide

/-- The documented opcodes 0x80 to 0x8F. -/
theorem test_decode_slots_8 :
    [rowReads [0x81#8, 0x34#8] (.staIndX 0x34#8) .STA (.indirectX 0x34#8) 6 false,
      rowReads [0x84#8, 0x34#8] (.styZp 0x34#8) .STY (.zeroPage 0x34#8) 3 false,
      rowReads [0x85#8, 0x34#8] (.staZp 0x34#8) .STA (.zeroPage 0x34#8) 3 false,
      rowReads [0x86#8, 0x34#8] (.stxZp 0x34#8) .STX (.zeroPage 0x34#8) 3 false,
      rowReads [0x88#8] .dey .DEY .implied 2 false,
      rowReads [0x8A#8] .txa .TXA .implied 2 false,
      rowReads [0x8C#8, 0x34#8, 0x12#8] (.styAbs 0x1234#16) .STY (.absolute 0x1234#16) 4 false,
      rowReads [0x8D#8, 0x34#8, 0x12#8] (.staAbs 0x1234#16) .STA (.absolute 0x1234#16) 4 false,
      rowReads [0x8E#8, 0x34#8, 0x12#8] (.stxAbs 0x1234#16) .STX (.absolute 0x1234#16) 4 false].all id = true := by decide

/-- The documented opcodes 0x90 to 0x9F. -/
theorem test_decode_slots_9 :
    [rowReads [0x90#8, 0x34#8] (.bcc 0x34#8) .BCC (.relative 0x34#8) 2 false,
      rowReads [0x91#8, 0x34#8] (.staIndY 0x34#8) .STA (.indirectY 0x34#8) 6 false,
      rowReads [0x94#8, 0x34#8] (.styZpX 0x34#8) .STY (.zeroPageX 0x34#8) 4 false,
      rowReads [0x95#8, 0x34#8] (.staZpX 0x34#8) .STA (.zeroPageX 0x34#8) 4 false,
      rowReads [0x96#8, 0x34#8] (.stxZpY 0x34#8) .STX (.zeroPageY 0x34#8) 4 false,
      rowReads [0x98#8] .tya .TYA .implied 2 false,
      rowReads [0x99#8, 0x34#8, 0x12#8] (.staAbsY 0x1234#16) .STA (.absoluteY 0x1234#16) 5 false,
      rowReads [0x9A#8] .txs .TXS .implied 2 false,
      rowReads [0x9D#8, 0x34#8, 0x12#8] (.staAbsX 0x1234#16) .STA (.absoluteX 0x1234#16) 5 false].all id = true := by decide

/-- The documented opcodes 0xA0 to 0xAF. -/
theorem test_decode_slots_A :
    [rowReads [0xA0#8, 0x34#8] (.ldyImm 0x34#8) .LDY (.immediate 0x34#8) 2 false,
      rowReads [0xA1#8, 0x34#8] (.ldaIndX 0x34#8) .LDA (.indirectX 0x34#8) 6 false,
      rowReads [0xA2#8, 0x34#8] (.ldxImm 0x34#8) .LDX (.immediate 0x34#8) 2 false,
      rowReads [0xA4#8, 0x34#8] (.ldyZp 0x34#8) .LDY (.zeroPage 0x34#8) 3 false,
      rowReads [0xA5#8, 0x34#8] (.ldaZp 0x34#8) .LDA (.zeroPage 0x34#8) 3 false,
      rowReads [0xA6#8, 0x34#8] (.ldxZp 0x34#8) .LDX (.zeroPage 0x34#8) 3 false,
      rowReads [0xA8#8] .tay .TAY .implied 2 false,
      rowReads [0xA9#8, 0x34#8] (.ldaImm 0x34#8) .LDA (.immediate 0x34#8) 2 false,
      rowReads [0xAA#8] .tax .TAX .implied 2 false,
      rowReads [0xAC#8, 0x34#8, 0x12#8] (.ldyAbs 0x1234#16) .LDY (.absolute 0x1234#16) 4 false,
      rowReads [0xAD#8, 0x34#8, 0x12#8] (.ldaAbs 0x1234#16) .LDA (.absolute 0x1234#16) 4 false,
      rowReads [0xAE#8, 0x34#8, 0x12#8] (.ldxAbs 0x1234#16) .LDX (.absolute 0x1234#16) 4 false].all id = true := by decide

/-- The documented opcodes 0xB0 to 0xBF. -/
theorem test_decode_slots_B :
    [rowReads [0xB0#8, 0x34#8] (.bcs 0x34#8) .BCS (.relative 0x34#8) 2 false,
      rowReads [0xB1#8, 0x34#8] (.ldaIndY 0x34#8) .LDA (.indirectY 0x34#8) 5 true,
      rowReads [0xB4#8, 0x34#8] (.ldyZpX 0x34#8) .LDY (.zeroPageX 0x34#8) 4 false,
      rowReads [0xB5#8, 0x34#8] (.ldaZpX 0x34#8) .LDA (.zeroPageX 0x34#8) 4 false,
      rowReads [0xB6#8, 0x34#8] (.ldxZpY 0x34#8) .LDX (.zeroPageY 0x34#8) 4 false,
      rowReads [0xB8#8] .clv .CLV .implied 2 false,
      rowReads [0xB9#8, 0x34#8, 0x12#8] (.ldaAbsY 0x1234#16) .LDA (.absoluteY 0x1234#16) 4 true,
      rowReads [0xBA#8] .tsx .TSX .implied 2 false,
      rowReads [0xBC#8, 0x34#8, 0x12#8] (.ldyAbsX 0x1234#16) .LDY (.absoluteX 0x1234#16) 4 true,
      rowReads [0xBD#8, 0x34#8, 0x12#8] (.ldaAbsX 0x1234#16) .LDA (.absoluteX 0x1234#16) 4 true,
      rowReads [0xBE#8, 0x34#8, 0x12#8] (.ldxAbsY 0x1234#16) .LDX (.absoluteY 0x1234#16) 4 true].all id = true := by decide

/-- The documented opcodes 0xC0 to 0xCF. -/
theorem test_decode_slots_C :
    [rowReads [0xC0#8, 0x34#8] (.cpyImm 0x34#8) .CPY (.immediate 0x34#8) 2 false,
      rowReads [0xC1#8, 0x34#8] (.cmpIndX 0x34#8) .CMP (.indirectX 0x34#8) 6 false,
      rowReads [0xC4#8, 0x34#8] (.cpyZp 0x34#8) .CPY (.zeroPage 0x34#8) 3 false,
      rowReads [0xC5#8, 0x34#8] (.cmpZp 0x34#8) .CMP (.zeroPage 0x34#8) 3 false,
      rowReads [0xC6#8, 0x34#8] (.decZp 0x34#8) .DEC (.zeroPage 0x34#8) 5 false,
      rowReads [0xC8#8] .iny .INY .implied 2 false,
      rowReads [0xC9#8, 0x34#8] (.cmpImm 0x34#8) .CMP (.immediate 0x34#8) 2 false,
      rowReads [0xCA#8] .dex .DEX .implied 2 false,
      rowReads [0xCC#8, 0x34#8, 0x12#8] (.cpyAbs 0x1234#16) .CPY (.absolute 0x1234#16) 4 false,
      rowReads [0xCD#8, 0x34#8, 0x12#8] (.cmpAbs 0x1234#16) .CMP (.absolute 0x1234#16) 4 false,
      rowReads [0xCE#8, 0x34#8, 0x12#8] (.decAbs 0x1234#16) .DEC (.absolute 0x1234#16) 6 false].all id = true := by decide

/-- The documented opcodes 0xD0 to 0xDF. -/
theorem test_decode_slots_D :
    [rowReads [0xD0#8, 0x34#8] (.bne 0x34#8) .BNE (.relative 0x34#8) 2 false,
      rowReads [0xD1#8, 0x34#8] (.cmpIndY 0x34#8) .CMP (.indirectY 0x34#8) 5 true,
      rowReads [0xD5#8, 0x34#8] (.cmpZpX 0x34#8) .CMP (.zeroPageX 0x34#8) 4 false,
      rowReads [0xD6#8, 0x34#8] (.decZpX 0x34#8) .DEC (.zeroPageX 0x34#8) 6 false,
      rowReads [0xD8#8] .cld .CLD .implied 2 false,
      rowReads [0xD9#8, 0x34#8, 0x12#8] (.cmpAbsY 0x1234#16) .CMP (.absoluteY 0x1234#16) 4 true,
      rowReads [0xDD#8, 0x34#8, 0x12#8] (.cmpAbsX 0x1234#16) .CMP (.absoluteX 0x1234#16) 4 true,
      rowReads [0xDE#8, 0x34#8, 0x12#8] (.decAbsX 0x1234#16) .DEC (.absoluteX 0x1234#16) 7 false].all id = true := by decide

/-- The documented opcodes 0xE0 to 0xEF. -/
theorem test_decode_slots_E :
    [rowReads [0xE0#8, 0x34#8] (.cpxImm 0x34#8) .CPX (.immediate 0x34#8) 2 false,
      rowReads [0xE1#8, 0x34#8] (.sbcIndX 0x34#8) .SBC (.indirectX 0x34#8) 6 false,
      rowReads [0xE4#8, 0x34#8] (.cpxZp 0x34#8) .CPX (.zeroPage 0x34#8) 3 false,
      rowReads [0xE5#8, 0x34#8] (.sbcZp 0x34#8) .SBC (.zeroPage 0x34#8) 3 false,
      rowReads [0xE6#8, 0x34#8] (.incZp 0x34#8) .INC (.zeroPage 0x34#8) 5 false,
      rowReads [0xE8#8] .inx .INX .implied 2 false,
      rowReads [0xE9#8, 0x34#8] (.sbcImm 0x34#8) .SBC (.immediate 0x34#8) 2 false,
      rowReads [0xEA#8] .nop .NOP .implied 2 false,
      rowReads [0xEC#8, 0x34#8, 0x12#8] (.cpxAbs 0x1234#16) .CPX (.absolute 0x1234#16) 4 false,
      rowReads [0xED#8, 0x34#8, 0x12#8] (.sbcAbs 0x1234#16) .SBC (.absolute 0x1234#16) 4 false,
      rowReads [0xEE#8, 0x34#8, 0x12#8] (.incAbs 0x1234#16) .INC (.absolute 0x1234#16) 6 false].all id = true := by decide

/-- The documented opcodes 0xF0 to 0xFF. -/
theorem test_decode_slots_F :
    [rowReads [0xF0#8, 0x34#8] (.beq 0x34#8) .BEQ (.relative 0x34#8) 2 false,
      rowReads [0xF1#8, 0x34#8] (.sbcIndY 0x34#8) .SBC (.indirectY 0x34#8) 5 true,
      rowReads [0xF5#8, 0x34#8] (.sbcZpX 0x34#8) .SBC (.zeroPageX 0x34#8) 4 false,
      rowReads [0xF6#8, 0x34#8] (.incZpX 0x34#8) .INC (.zeroPageX 0x34#8) 6 false,
      rowReads [0xF8#8] .sed .SED .implied 2 false,
      rowReads [0xF9#8, 0x34#8, 0x12#8] (.sbcAbsY 0x1234#16) .SBC (.absoluteY 0x1234#16) 4 true,
      rowReads [0xFD#8, 0x34#8, 0x12#8] (.sbcAbsX 0x1234#16) .SBC (.absoluteX 0x1234#16) 4 true,
      rowReads [0xFE#8, 0x34#8, 0x12#8] (.incAbsX 0x1234#16) .INC (.absoluteX 0x1234#16) 7 false].all id = true := by decide

/-- The empty slots of R88, part 1: one byte, whatever follows. -/
theorem test_decode_empty_1 :
    [0x02#8, 0x03#8, 0x04#8, 0x07#8, 0x0B#8, 0x0C#8, 0x0F#8, 0x12#8, 0x13#8, 0x14#8,
      0x17#8, 0x1A#8, 0x1B#8, 0x1C#8, 0x1F#8, 0x22#8, 0x23#8, 0x27#8, 0x2B#8, 0x2F#8,
      0x32#8, 0x33#8, 0x34#8, 0x37#8, 0x3A#8, 0x3B#8, 0x3C#8, 0x3F#8, 0x42#8, 0x43#8,
      0x44#8, 0x47#8, 0x4B#8, 0x4F#8, 0x52#8].all
      (fun op => decide (decode [op, 0x34#8, 0x12#8] = .ok (.unimplemented op) [0x34#8, 0x12#8])) = true := by
  decide

/-- The empty slots of R88, part 2: one byte, whatever follows. -/
theorem test_decode_empty_2 :
    [0x53#8, 0x54#8, 0x57#8, 0x5A#8, 0x5B#8, 0x5C#8, 0x5F#8, 0x62#8, 0x63#8, 0x64#8,
      0x67#8, 0x6B#8, 0x6F#8, 0x72#8, 0x73#8, 0x74#8, 0x77#8, 0x7A#8, 0x7B#8, 0x7C#8,
      0x7F#8, 0x80#8, 0x82#8, 0x83#8, 0x87#8, 0x89#8, 0x8B#8, 0x8F#8, 0x92#8, 0x93#8,
      0x97#8, 0x9B#8, 0x9C#8, 0x9E#8, 0x9F#8].all
      (fun op => decide (decode [op, 0x34#8, 0x12#8] = .ok (.unimplemented op) [0x34#8, 0x12#8])) = true := by
  decide

/-- The empty slots of R88, part 3: one byte, whatever follows. -/
theorem test_decode_empty_3 :
    [0xA3#8, 0xA7#8, 0xAB#8, 0xAF#8, 0xB2#8, 0xB3#8, 0xB7#8, 0xBB#8, 0xBF#8, 0xC2#8,
      0xC3#8, 0xC7#8, 0xCB#8, 0xCF#8, 0xD2#8, 0xD3#8, 0xD4#8, 0xD7#8, 0xDA#8, 0xDB#8,
      0xDC#8, 0xDF#8, 0xE2#8, 0xE3#8, 0xE7#8, 0xEB#8, 0xEF#8, 0xF2#8, 0xF3#8, 0xF4#8,
      0xF7#8, 0xFA#8, 0xFB#8, 0xFC#8, 0xFF#8].all
      (fun op => decide (decode [op, 0x34#8, 0x12#8] = .ok (.unimplemented op) [0x34#8, 0x12#8])) = true := by
  decide

/-- Missing operand bytes are rejected by name. -/
theorem test_decode_rejects :
    decode [] = .reject .noBytes ∧ decode [0xA9#8] = .reject (.operandMissing 0xA9#8) ∧
    decode [0x4C#8, 0x34#8] = .reject (.operandMissing 0x4C#8) := by decide

/-- The one check of WellFormed: an `unimplemented` that names a documented opcode is ill formed. -/
theorem test_wellFormed_refuses :
    (Instr.unimplemented 0xA9#8).wellFormed = false ∧
    (Instr.unimplemented 0x00#8).wellFormed = false ∧
    (Instr.unimplemented 0x02#8).wellFormed = true := by decide

/-- A table word's first byte is its low byte: `LDA #$10` is the word 0x10A9. -/
theorem test_decodeTableWord :
    decodeTableWord 16 0x10A9 = some (.ldaImm 0x10#8) ∧
    decodeTableWord 8 0x4C = some (.jmpAbs 0x0000#16) ∧
    decodeTableWord 24 0x12FF6C = some (.jmpInd 0x12FF#16) := by decide

/-- `withFetchWord` places the word at PC and the next step runs it. -/
theorem test_withFetchWord :
    observed (step (State.reset.withFetchWord 16 0x10A9)) [0x0000#16, 0x0001#16] =
      some ⟨⟨0x10#8, 0x00#8, 0x00#8, 0xFD#8, 0x24#8⟩, 0x0002#16, 2, [0xA9#8, 0x10#8], []⟩ := by
  decide

/-! ## Shifts of A (95_test_vectors.md SHIFT-T) and the source's boundary sums (ADC-T, SBC-T) -/

/-- ASL A of 81 with C = 1 gives 02, C = 1; LSR A of 01 gives 00, C = 1, Z = 1; ROL A of 80 with
C = 1 gives 01, C = 1; ROR A of 01 with C = 1 gives 80, C = 1, N = 1. -/
theorem test_SHIFT_T :
    observed (step (vector 0x0200#16 [0x0A#8] [] ⟨0x81#8, 0#8, 0#8, 0xFD#8, 0x25#8⟩)) [] =
      some ⟨⟨0x02#8, 0#8, 0#8, 0xFD#8, 0x25#8⟩, 0x0201#16, 2, [], []⟩ ∧
    observed (step (vector 0x0200#16 [0x4A#8] [] ⟨0x01#8, 0#8, 0#8, 0xFD#8, 0x24#8⟩)) [] =
      some ⟨⟨0x00#8, 0#8, 0#8, 0xFD#8, 0x27#8⟩, 0x0201#16, 2, [], []⟩ ∧
    observed (step (vector 0x0200#16 [0x2A#8] [] ⟨0x80#8, 0#8, 0#8, 0xFD#8, 0x25#8⟩)) [] =
      some ⟨⟨0x01#8, 0#8, 0#8, 0xFD#8, 0x25#8⟩, 0x0201#16, 2, [], []⟩ ∧
    observed (step (vector 0x0200#16 [0x6A#8] [] ⟨0x01#8, 0#8, 0#8, 0xFD#8, 0x25#8⟩)) [] =
      some ⟨⟨0x80#8, 0#8, 0#8, 0xFD#8, 0xA5#8⟩, 0x0201#16, 2, [], []⟩ := by decide

/-- ADC-T row 7F + 00 + 1 = 80 with V and N, and SBC-T row 80 - 00 - 1 = 7F with C and V. -/
theorem test_ADC_T_SBC_T :
    observed (step (vector 0x0200#16 [0x69#8, 0x00#8] [] ⟨0x7F#8, 0#8, 0#8, 0xFD#8, 0x25#8⟩)) [] =
      some ⟨⟨0x80#8, 0#8, 0#8, 0xFD#8, 0xE4#8⟩, 0x0202#16, 4, [], []⟩ ∧
    observed (step (vector 0x0200#16 [0xE9#8, 0x00#8] [] ⟨0x80#8, 0#8, 0#8, 0xFD#8, 0x24#8⟩)) [] =
      some ⟨⟨0x7F#8, 0#8, 0#8, 0xFD#8, 0x65#8⟩, 0x0202#16, 2, [], []⟩ := by decide

/-! ## Host operations (95_test_vectors.md L2.8) -/

/-- V-IQ1: irq() taken. -/
theorem test_V_IQ1 :
    observedOf (hostIrq (vector 0x1234#16 [] [(0xFFFE#16, 0x00#8), (0xFFFF#16, 0x40#8)]
        ⟨0#8, 0#8, 0#8, 0xFD#8, 0xA1#8⟩)) [0x01FD#16, 0x01FC#16, 0x01FB#16] =
      ⟨⟨0#8, 0#8, 0#8, 0xFA#8, 0xA5#8⟩, 0x4000#16, 7, [0x12#8, 0x34#8, 0xA1#8], []⟩ := by decide

/-- V-IQ2: irq() discarded while I = 1. -/
theorem test_V_IQ2 :
    hostIrq (vector 0x1234#16 [] [] startRegs) = vector 0x1234#16 [] [] startRegs := by decide

/-- V-NM1: nmi() is taken though I = 1, and pushes Break clear. -/
theorem test_V_NM1 :
    observedOf (hostNmi (vector 0x1234#16 [] [(0xFFFA#16, 0x00#8), (0xFFFB#16, 0x50#8)]
        ⟨0#8, 0#8, 0#8, 0xFD#8, 0x34#8⟩)) [0x01FD#16, 0x01FC#16, 0x01FB#16] =
      ⟨⟨0#8, 0#8, 0#8, 0xFA#8, 0x34#8⟩, 0x5000#16, 8, [0x12#8, 0x34#8, 0x24#8], []⟩ := by decide

/-- V-NM2: the frame wraps in the stack page. -/
theorem test_V_NM2 :
    observedOf (hostNmi (vector 0xABCD#16 [] [] ⟨0#8, 0#8, 0#8, 0x01#8, 0x20#8⟩))
        [0x0101#16, 0x0100#16, 0x01FF#16] =
      ⟨⟨0#8, 0#8, 0#8, 0xFE#8, 0x24#8⟩, 0x0000#16, 8, [0xAB#8, 0xCD#8, 0x20#8], []⟩ := by decide

/-- V-RS1, V-RS3: reset() from a dirty state, which keeps DIAG. -/
theorem test_V_RS1 :
    observedOf (hostReset { vector 0x0300#16 [] [(0xFFFC#16, 0x34#8), (0xFFFD#16, 0x12#8)]
        ⟨9#8, 9#8, 9#8, 0x10#8, 0xFF#8⟩ with cyc := 999, diag := [⟨0x02#8, 0x0203#16⟩] }) [] =
      ⟨startRegs, 0x1234#16, 0, [], [⟨0x02#8, 0x0203#16⟩]⟩ := by decide

/-- V-RS2: a new instance, which is `State.reset`. -/
theorem test_V_RS2 :
    construct = State.reset ∧ observedOf construct [0x0000#16, 0xFFFF#16] =
      ⟨startRegs, 0x0000#16, 0, [0x00#8, 0x00#8], []⟩ := by decide

/-- S8 and R66: `loadProgram([0xA2, 0xFF], 0x0000)` on a new instance, then one step. -/
theorem test_S8 :
    observed (step (hostLoadProgram [0xA2, 0xFF] 0x0000 construct)) [] =
      some ⟨⟨0#8, 0xFF#8, 0#8, 0xFD#8, 0xA4#8⟩, 0x0002#16, 2, [], []⟩ := by decide

/-- The accessors read the state they are called on (41_dispatch.md R133). -/
theorem test_accessors :
    let s : State := { State.reset with a := 1#8, x := 2#8, y := 3#8, pc := 4#16, cyc := 5 }
    hostGetA s = 1#8 ∧ hostGetX s = 2#8 ∧ hostGetY s = 3#8 ∧ hostGetPC s = 4#16 ∧
    hostGetCycles s = 5 ∧ hostGetSP s = 0xFD#8 ∧ hostGetStatus s = 0x24#8 := by decide

/-! ## Witnesses: states and operands that meet each obligation's hypotheses -/

/-- A state with SP at the edge of the stack page. -/
def spZero : State := { State.reset with sp := 0x00#8 }

theorem test_witness_DecodeOfEncode :
    (Instr.ldaAbs 0xFFFF#16).WellFormed ∧ (Instr.bne 0x80#8).WellFormed ∧ Instr.brk.WellFormed ∧
    (Instr.unimplemented 0x02#8).WellFormed ∧ (Instr.unimplemented 0xFF#8).WellFormed := by decide

theorem test_witness_EncodeOfDecode :
    decode [0x20#8, 0x00#8, 0x90#8, 0xEA#8] = .ok (.jsr 0x9000#16) [0xEA#8] ∧
    decode [0xFF#8] = .ok (.unimplemented 0xFF#8) [] := by decide

theorem test_witness_LengthFromOpcode :
    isEmptySlot 0x02#8 = true ∧ isEmptySlot 0xFF#8 = true ∧ isEmptySlot 0xFE#8 = false := by decide

theorem test_witness_StepRunsDecoded :
    let s := vector 0xFFFF#16 [0xA9#8, 0x5A#8] [] startRegs
    decode [s.readByte s.pc, s.readByte (s.pc + 1#16), s.readByte (s.pc + 2#16)] =
      .ok (.ldaImm 0x5A#8) [0x00#8] := by decide

/-- A flat table of costs and a CYC of two bits. -/
def otherParams : Params := ⟨fun _ => 1, .bits 2⟩

/-- The default and a flat table are both positive on the documented opcodes, and a step answers
under each; the mask holds irq() off or does not. -/
theorem test_witness_CycleCosts :
    (∃ t, step State.reset = .next t) ∧ Instr.brk.mnemonic ≠ .UNIMPLEMENTED ∧
    (Instr.aslAbsX 0xFFFF#16).mnemonic ≠ .UNIMPLEMENTED ∧
    (Instr.unimplemented 0x02#8).mnemonic = .UNIMPLEMENTED ∧
    State.reset.flag .I = true ∧ (State.reset.setFlag .I false).flag .I = false ∧
    (∀ op : Byte, isEmptySlot op = false → 0 < defaultParams.costs op) ∧
    (∀ op : Byte, isEmptySlot op = false → 0 < otherParams.costs op) ∧
    ∃ t, stepWith { otherParams with cycleWidth := .unbounded } State.reset = .next t :=
  ⟨⟨_, rfl⟩, by decide, by decide, by decide, by decide, by decide, by decide, by decide, ⟨_, rfl⟩⟩

/-- R7: the parameters are an argument. The first step from reset is a BRK: it charges 7 cycles by
default, 1 at a flat cost of 1, and leaves 7 mod 4 in a CYC of two bits. -/
theorem test_params_argument :
    observed (stepWith defaultParams State.reset) [] =
      some ⟨⟨0x00#8, 0x00#8, 0x00#8, 0xFA#8, 0x24#8⟩, 0x0000#16, 7, [], []⟩ ∧
    observed (stepWith { defaultParams with costs := fun _ => 1 } State.reset) [] =
      some ⟨⟨0x00#8, 0x00#8, 0x00#8, 0xFA#8, 0x24#8⟩, 0x0000#16, 1, [], []⟩ ∧
    observed (stepWith { defaultParams with cycleWidth := .bits 2 } State.reset) [] =
      some ⟨⟨0x00#8, 0x00#8, 0x00#8, 0xFA#8, 0x24#8⟩, 0x0000#16, 3, [], []⟩ := by decide

/-- D1: an empty slot, irq() and nmi() charge a CYC of two bits mod 4. -/
theorem test_width_wraps :
    observed (execWith otherParams (.unimplemented 0x02#8) { State.reset with cyc := 3 }) [] =
      some ⟨startRegs, 0x0001#16, 1, [], [⟨0x02#8, 0x0000#16⟩]⟩ ∧
    (hostIrq (State.reset.setFlag .I false) otherParams).cyc = 3 ∧
    (hostNmi State.reset otherParams).cyc = 0 := by decide

theorem test_witness_ImmediateMode :
    (fetch (vector 0xFFFF#16 [0xA9#8, 0x5A#8] [] startRegs)).operand = .immediate 0x5A#8 := by decide

/-- Each mode at the edge of its page, with the address the rule gives. -/
theorem test_witness_ZeroPageModes :
    let s := { State.reset with x := 0x20#8, y := 0x02#8 }
    (Instr.ldaZp 0xFF#8).operand = .zeroPage 0xFF#8 ∧
    (resolvedOf (.ldaZp 0xFF#8) s).ea = 0x00FF#16 ∧
    (Instr.ldaZpX 0xF0#8).operand = .zeroPageX 0xF0#8 ∧
    (resolvedOf (.ldaZpX 0xF0#8) s).ea = 0x0010#16 ∧
    (Instr.ldxZpY 0xFF#8).operand = .zeroPageY 0xFF#8 ∧
    (resolvedOf (.ldxZpY 0xFF#8) s).ea = 0x0001#16 ∧
    (Instr.stxZpY 0x00#8).operand = .zeroPageY 0x00#8 := by decide

theorem test_witness_AbsoluteModes :
    let s := { State.reset with x := 0x01#8, y := 0x80#8 }
    (Instr.ldaAbs 0xFFFF#16).operand = .absolute 0xFFFF#16 ∧
    (Instr.ldaAbsX 0xFFFF#16).operand = .absoluteX 0xFFFF#16 ∧
    resolvedOf (.ldaAbsX 0xFFFF#16) s = ⟨0x0000#16, true⟩ ∧
    resolvedOf (.ldaAbsX 0x12FE#16) s = ⟨0x12FF#16, false⟩ ∧
    (Instr.ldaAbsY 0x1280#16).operand = .absoluteY 0x1280#16 ∧
    resolvedOf (.ldaAbsY 0x1280#16) s = ⟨0x1300#16, true⟩ := by decide

theorem test_witness_IndirectIndexedModes :
    let s := vector 0x0200#16 [] [(0x00FF#16, 0xFF#8), (0x0000#16, 0xFF#8)]
      ⟨0#8, 0x01#8, 0x01#8, 0xFD#8, 0x24#8⟩
    (Instr.ldaIndX 0xFE#8).operand = .indirectX 0xFE#8 ∧
    resolvedOf (.ldaIndX 0xFE#8) s = ⟨0xFFFF#16, false⟩ ∧
    (Instr.ldaIndY 0xFF#8).operand = .indirectY 0xFF#8 ∧
    resolvedOf (.ldaIndY 0xFF#8) s = ⟨0x0000#16, true⟩ := by decide

theorem test_witness_AbsoluteIndirectMode :
    (Instr.jmpInd 0x12FF#16).operand = .absoluteIndirect 0x12FF#16 ∧
    (Instr.jmpInd 0xFFFF#16).operand = .absoluteIndirect 0xFFFF#16 := by decide

theorem test_witness_RelativeMode :
    (Instr.bne 0x7F#8).operand = .relative 0x7F#8 ∧ (Instr.bne 0x80#8).operand = .relative 0x80#8 ∧
    resolvedOf (.bne 0x80#8) { State.reset with pc := 0x0200#16 } = ⟨0x0182#16, true⟩ := by decide

theorem test_witness_NoOperandModes :
    Instr.aslAcc.operand = .accumulator ∧ Instr.brk.operand = .implied ∧
    (Instr.unimplemented 0x02#8).operand = .implied := by decide

theorem test_witness_LoadResults :
    (Instr.ldaIndY 0xFF#8).mnemonic = .LDA ∧ (Instr.ldxAbsY 0xFFFF#16).mnemonic = .LDX ∧
    (Instr.ldyAbsX 0xFFFF#16).mnemonic = .LDY := by decide

theorem test_witness_StoreResults :
    (Instr.staIndY 0xFF#8).mnemonic = .STA ∧ (Instr.stxZpY 0xFF#8).mnemonic = .STX ∧
    (Instr.styZpX 0xFF#8).mnemonic = .STY := by decide

theorem test_witness_TransferResults :
    Instr.tax.mnemonic = .TAX ∧ Instr.tay.mnemonic = .TAY ∧ Instr.txa.mnemonic = .TXA ∧
    Instr.tya.mnemonic = .TYA ∧ Instr.tsx.mnemonic = .TSX := by decide

theorem test_witness_AdcResult : (Instr.adcIndY 0xFF#8).mnemonic = .ADC := by decide

theorem test_witness_SbcResult : (Instr.sbcAbsX 0xFFFF#16).mnemonic = .SBC := by decide

theorem test_witness_DecimalFlagIsInert :
    (Instr.adcImm 0x09#8).mnemonic = .ADC ∧ (Instr.sbcImm 0x01#8).mnemonic = .SBC := by decide

theorem test_witness_LogicResults :
    (Instr.andAbsY 0xFFFF#16).mnemonic = .AND ∧ (Instr.oraIndX 0xFF#8).mnemonic = .ORA ∧
    (Instr.eorImm 0x00#8).mnemonic = .EOR := by decide

theorem test_witness_CompareResults :
    (Instr.cmpAbsX 0xFFFF#16).mnemonic = .CMP ∧ (Instr.cpxImm 0x00#8).mnemonic = .CPX ∧
    (Instr.cpyZp 0xFF#8).mnemonic = .CPY := by decide

theorem test_witness_BitTestResult :
    (Instr.bitZp 0xFF#8).mnemonic = .BIT ∧ (Instr.bitAbs 0xFFFF#16).mnemonic = .BIT := by decide

theorem test_witness_ShiftResults :
    (Instr.aslAcc.mnemonic = .ASL ∧ Instr.aslAcc.operand = .accumulator) ∧
    ((Instr.aslZp 0xFF#8).mnemonic = .ASL ∧ (Instr.aslZp 0xFF#8).operand ≠ .accumulator) ∧
    (Instr.lsrAcc.mnemonic = .LSR ∧ Instr.lsrAcc.operand = .accumulator) ∧
    ((Instr.lsrAbs 0xFFFF#16).mnemonic = .LSR ∧ (Instr.lsrAbs 0xFFFF#16).operand ≠ .accumulator) ∧
    (Instr.rolAcc.mnemonic = .ROL ∧ Instr.rolAcc.operand = .accumulator) ∧
    ((Instr.rolZpX 0xFF#8).mnemonic = .ROL ∧ (Instr.rolZpX 0xFF#8).operand ≠ .accumulator) ∧
    (Instr.rorAcc.mnemonic = .ROR ∧ Instr.rorAcc.operand = .accumulator) ∧
    ((Instr.rorAbsX 0xFFFF#16).mnemonic = .ROR ∧
      (Instr.rorAbsX 0xFFFF#16).operand ≠ .accumulator) := by decide

theorem test_witness_MemoryStepResults :
    (Instr.incAbsX 0xFFFF#16).mnemonic = .INC ∧ (Instr.decZp 0xFF#8).mnemonic = .DEC := by decide

theorem test_witness_IndexStepResults :
    Instr.inx.mnemonic = .INX ∧ Instr.iny.mnemonic = .INY ∧ Instr.dex.mnemonic = .DEX ∧
    Instr.dey.mnemonic = .DEY := by decide

theorem test_witness_JumpResult :
    (Instr.jmpAbs 0xFFFF#16).mnemonic = .JMP ∧ (Instr.jmpInd 0x12FF#16).mnemonic = .JMP := by decide

theorem test_witness_ReturnsResume :
    (∃ t, exec (.jsr 0x9000#16) spZero = .next t) ∧ ∃ t, exec .brk spZero = .next t :=
  ⟨⟨_, rfl⟩, ⟨_, rfl⟩⟩

/-- Each branch, and each flag it tests at both values: in the reset state C, Z, V and N are 0. -/
theorem test_witness_BranchResults :
    (Instr.bcc 0x80#8).mnemonic = .BCC ∧ (Instr.bcs 0x7F#8).mnemonic = .BCS ∧
    (Instr.beq 0x00#8).mnemonic = .BEQ ∧ (Instr.bmi 0xFF#8).mnemonic = .BMI ∧
    (Instr.bne 0x80#8).mnemonic = .BNE ∧ (Instr.bpl 0x7F#8).mnemonic = .BPL ∧
    (Instr.bvc 0x00#8).mnemonic = .BVC ∧ (Instr.bvs 0xFF#8).mnemonic = .BVS ∧
    [Flag.C, .Z, .V, .N].all (fun f => !State.reset.flag f) = true ∧
    [Flag.C, .Z, .V, .N].all (State.flag { State.reset with sr := 0xE7#8 }) = true := by decide

theorem test_witness_IrqEntry :
    State.reset.flag .I = true ∧ ({ State.reset with sr := 0x20#8 } : State).flag .I = false := by
  decide

theorem test_witness_HostResetResult :
    (Flag.C ≠ .I ∧ Flag.C ≠ .U) ∧ (Flag.D ≠ .I ∧ Flag.D ≠ .U) ∧ (Flag.B ≠ .I ∧ Flag.B ≠ .U) ∧
    (Flag.N ≠ .I ∧ Flag.N ≠ .U) := by decide

/-- NOP completes and is in none of the lists of RegisterFrame, FlagFrame and ProgramCounterFrame. -/
theorem test_witness_Frames :
    (∃ t, exec .nop State.reset = .next t) ∧
    Instr.nop.mnemonic ∉ [.LDA, .TXA, .TYA, .PLA, .ADC, .SBC, .AND, .ORA, .EOR] ∧
    Instr.nop.operand ≠ .accumulator ∧ Instr.nop.mnemonic ∉ [.LDX, .TAX, .TSX, .INX, .DEX] ∧
    Instr.nop.mnemonic ∉ [.LDY, .TAY, .INY, .DEY] ∧
    Instr.nop.mnemonic ∉ [.TXS, .PHA, .PHP, .PLA, .PLP, .JSR, .RTS, .BRK, .RTI] ∧
    Instr.nop.mnemonic ∉ [.ADC, .SBC, .CMP, .CPX, .CPY, .ASL, .LSR, .ROL, .ROR, .CLC, .SEC] ∧
    Instr.nop.mnemonic ∉ [.LDA, .LDX, .LDY, .TAX, .TAY, .TXA, .TYA, .TSX, .PLA, .AND, .ORA, .EOR,
      .ADC, .SBC, .CMP, .CPX, .CPY, .BIT, .ASL, .LSR, .ROL, .ROR, .INC, .DEC,
      .INX, .INY, .DEX, .DEY] ∧
    Instr.nop.mnemonic ∉ [.SEI, .CLI, .BRK] ∧ Instr.nop.mnemonic ∉ [.SED, .CLD] ∧
    Instr.nop.mnemonic ∉ [.ADC, .SBC, .BIT, .CLV] ∧ Instr.nop.mnemonic ∉ [.PLP, .RTI] ∧
    Instr.nop.mnemonic ∉
      [.JMP, .JSR, .RTS, .BCC, .BCS, .BEQ, .BMI, .BNE, .BPL, .BVC, .BVS, .BRK, .RTI] :=
  ⟨⟨_, rfl⟩, by decide, by decide, by decide, by decide, by decide, by decide, by decide, by decide,
    by decide, by decide, by decide, by decide⟩

/-- Each clause of MemoryFrame: a form that stores nothing, a store at the top of memory, and the
stack instructions with SP at the edge of the page. -/
theorem test_witness_MemoryFrame :
    ((∃ t, exec .aslAcc State.reset = .next t) ∧ Instr.aslAcc.operand = .accumulator) ∧
    ((∃ t, exec .rts State.reset = .next t) ∧ Instr.rts.mnemonic ∉
      [.STA, .STX, .STY, .ASL, .LSR, .ROL, .ROR, .INC, .DEC, .PHA, .PHP, .JSR, .BRK]) ∧
    ((∃ t, exec (.staAbs 0xFFFF#16) State.reset = .next t) ∧ (Instr.staAbs 0xFFFF#16).mnemonic ∈
      [.STA, .STX, .STY, .ASL, .LSR, .ROL, .ROR, .INC, .DEC]) ∧
    ((∃ t, exec .pha spZero = .next t) ∧ Instr.pha.mnemonic ∈ [.PHA, .PHP] ∧
      0x0101#16 ≠ stackAddr spZero.sp) ∧
    ((∃ t, exec (.jsr 0x9000#16) spZero = .next t) ∧ (Instr.jsr 0x9000#16).mnemonic = .JSR ∧
      0x0200#16 ≠ stackAddr spZero.sp ∧ 0x0200#16 ≠ stackAddr (spZero.sp - 1#8)) ∧
    ((∃ t, exec .brk spZero = .next t) ∧ Instr.brk.mnemonic = .BRK ∧
      0x0200#16 ≠ stackAddr spZero.sp ∧ 0x0200#16 ≠ stackAddr (spZero.sp - 1#8) ∧
      0x0200#16 ≠ stackAddr (spZero.sp - 2#8)) :=
  ⟨⟨⟨_, rfl⟩, by decide⟩, ⟨⟨_, rfl⟩, by decide⟩, ⟨⟨_, rfl⟩, by decide⟩,
    ⟨⟨_, rfl⟩, by decide, by decide⟩, ⟨⟨_, rfl⟩, by decide, by decide, by decide⟩,
    ⟨⟨_, rfl⟩, by decide, by decide, by decide, by decide⟩⟩

theorem test_witness_DiagnosticLogGrows :
    (∃ t, step State.reset = .next t) ∧
    (∃ t, step (vector 0x0200#16 [0x02#8] [] startRegs) = .next t) ∧
    isEmptySlot ((vector 0x0200#16 [0x02#8] [] startRegs).readByte 0x0200#16) = true :=
  ⟨⟨_, rfl⟩, ⟨_, rfl⟩, by decide⟩

theorem test_witness_StepKeepsInvariant :
    State.Inv (vector 0x0200#16 [0x48#8] [] startRegs) ∧
    ∃ t, step (vector 0x0200#16 [0x48#8] [] startRegs) = .next t := ⟨by decide, ⟨_, rfl⟩⟩

theorem test_witness_ReachableStatesHaveInvariant :
    State.reset.Inv ∧ (∃ t, hostCall .nmi State.reset = .next t) ∧
    (∃ t, hostCall (.loadProgram [0xA2, 0xFF] 0xFFFF) State.reset = .next t) ∧
    Reachable (hostIrq State.reset) := ⟨by decide, ⟨_, rfl⟩, ⟨_, rfl⟩, ⟨[.irq], rfl⟩⟩

end Sys2Proof.Tests
end

section
/-! SUPPORT. Flags after the operations that write memory or all of SR, and a flag as a mask. -/

namespace Sys2Proof.Machine

open Sys2Proof

@[simp] theorem State.flag_writeByte (s : State) (k : Word) (v : Byte) (f : Flag) :
    (s.writeByte k v).flag f = s.flag f := rfl

@[simp] theorem State.flag_storeOperand (o : Operand) (ea : Word) (v : Byte) (s : State) (f : Flag) :
    (storeOperand o ea v s).flag f = s.flag f :=
  State.flag_of_sr _ _ (storeOperand_sr o ea v s) f

@[simp] theorem State.flag_returnFromInterrupt (s : State) (f : Flag) :
    s.returnFromInterrupt.flag f = if f = .U then true else getFlag f s.popByte := by
  rw [State.flag, State.returnFromInterrupt_sr, getFlag_or_unused]

/-- A flag reads as its bit under its mask (10_state.md R24). -/
theorem getFlag_eq_mask (f : Flag) (sr : Byte) :
    getFlag f sr = decide (sr &&& flagMask f ≠ 0#8) := by
  have hmask : flagMask f = BitVec.twoPow 8 (flagBit f) := rfl
  have hne : BitVec.twoPow 8 (flagBit f) ≠ 0#8 := by cases f <;> decide
  rw [getFlag, hmask, BitVec.and_twoPow]
  cases sr.getLsbD (flagBit f) <;> simp [hne]

end Sys2Proof.Machine
end

section
/-! SUPPORT. What an instruction does to the registers, by class of mnemonic. `Effect` lists the
classes once, `execWith_effect` ties them to the machine, and the frames, the invariant and the cycle
bounds are read off the list. -/

namespace Sys2Proof.Machine

open Sys2Proof

/-- The conditional branches (45_control.md R230 to R241). -/
abbrev branchMnemonics : List Mnemonic := [.BCC, .BCS, .BEQ, .BMI, .BNE, .BPL, .BVC, .BVS]

/-- The mnemonics that may write a flag (10_state.md R34), but for PLP and RTI, which load all of
SR. -/
def flagWriters : Flag → List Mnemonic
  | .C => [.ADC, .SBC, .CMP, .CPX, .CPY, .ASL, .LSR, .ROL, .ROR, .CLC, .SEC]
  | .Z | .N => [.LDA, .LDX, .LDY, .TAX, .TAY, .TXA, .TYA, .TSX, .PLA, .AND, .ORA, .EOR,
      .ADC, .SBC, .CMP, .CPX, .CPY, .BIT, .ASL, .LSR, .ROL, .ROR, .INC, .DEC,
      .INX, .INY, .DEX, .DEY]
  | .I => [.SEI, .CLI, .BRK]
  | .D => [.SED, .CLD]
  | .V => [.ADC, .SBC, .BIT, .CLV]
  | .B | .U => []

/-- What the effect of a documented instruction `i` can answer, resolved to `r`, from the state `s`
with PC already past it: the next state before its cycles are charged, and the extra cycles. A byte
that only the operand or a register determines is left free. -/
inductive Effect (i : Instr) (r : Resolved) (s : State) : State × Nat → Prop
  | setA (v : Byte) (hm : i.mnemonic ∈ [.LDA, .TXA, .TYA, .AND, .ORA, .EOR]) :
      Effect i r s (({ s with a := v }).setZN v, 0)
  | setX (v : Byte) (hm : i.mnemonic ∈ [.LDX, .TAX, .TSX, .INX, .DEX]) :
      Effect i r s (({ s with x := v }).setZN v, 0)
  | setY (v : Byte) (hm : i.mnemonic ∈ [.LDY, .TAY, .INY, .DEY]) :
      Effect i r s (({ s with y := v }).setZN v, 0)
  | setSP (hm : i.mnemonic = .TXS) : Effect i r s ({ s with sp := s.x }, 0)
  | store (v : Byte) (hm : i.mnemonic ∈ [.STA, .STX, .STY]) : Effect i r s (s.writeByte r.ea v, 0)
  | adc (v : Byte) (hm : i.mnemonic = .ADC) : Effect i r s (s.adc v, 0)
  | sbc (v : Byte) (hm : i.mnemonic = .SBC) : Effect i r s (s.sbc v, 0)
  | compare (reg v : Byte) (hm : i.mnemonic ∈ [.CMP, .CPX, .CPY]) : Effect i r s (s.compare reg v, 0)
  | bitTest (v : Byte) (hm : i.mnemonic = .BIT) : Effect i r s (s.bitTest v, 0)
  | shift (c : Bool) (v : Byte) (hm : i.mnemonic ∈ [.ASL, .LSR, .ROL, .ROR]) :
      Effect i r s ((storeOperand i.operand r.ea v (s.setFlag .C c)).setZN v, 0)
  | updateMemory (v : Byte) (hm : i.mnemonic ∈ [.INC, .DEC]) :
      Effect i r s ((s.writeByte r.ea v).setZN v, 0)
  | setFlag (f : Flag) (b : Bool)
      (hm : (i.mnemonic, f) ∈ [(.CLC, .C), (.CLD, .D), (.CLI, .I), (.CLV, .V), (.SEC, .C),
        (.SED, .D), (.SEI, .I)]) :
      Effect i r s (s.setFlag f b, 0)
  | push (v : Byte) (hm : i.mnemonic ∈ [.PHA, .PHP]) : Effect i r s (s.push8 v, 0)
  | pullA (hm : i.mnemonic = .PLA) :
      Effect i r s (({ s.popped with a := s.popByte }).setZN s.popByte, 0)
  | pullStatus (hm : i.mnemonic = .PLP) : Effect i r s (s.popped.writeStatus s.popByte, 0)
  | jump (hm : i.mnemonic = .JMP) : Effect i r s ({ s with pc := r.ea }, 0)
  | call (hm : i.mnemonic = .JSR) : Effect i r s ({ s.push16 (s.pc - 1#16) with pc := r.ea }, 0)
  | ret (hm : i.mnemonic = .RTS) :
      Effect i r s ({ s.popped.popped with pc := s.popWord + 1#16 }, 0)
  | branchTaken (hm : i.mnemonic ∈ branchMnemonics) :
      Effect i r s ({ s with pc := r.ea }, 1 + bit r.crossed)
  | branchNotTaken (hm : i.mnemonic ∈ branchMnemonics) : Effect i r s (s, 0)
  | nop (hm : i.mnemonic = .NOP) : Effect i r s (s, 0)
  | brk (hm : i.mnemonic = .BRK) :
      Effect i r s (s.enterInterrupt (s.pc + 1#16) (statusBreakSet s.sr) irqVector, 0)
  | rti (hm : i.mnemonic = .RTI) : Effect i r s (s.returnFromInterrupt, 0)

/-- Both ways of a branch are in the list. -/
theorem Effect.branch {i : Instr} (r : Resolved) (s : State) (taken : Bool)
    (hm : i.mnemonic ∈ branchMnemonics) :
    Effect i r s (if taken then ({ s with pc := r.ea }, 1 + bit r.crossed) else (s, 0)) := by
  cases taken
  · exact .branchNotTaken hm
  · exact .branchTaken hm

/-- `f` is one `perform`, whatever the parameters, around an effect that answers as the list says. -/
def Performs (i : Instr) (f : Params → State → StepResult) : Prop :=
  ∃ effect, (∀ params s, f params s = perform params i effect s) ∧ ∀ r s, Effect i r s (effect r s)

section
variable {i : Instr}

theorem performPlain_performs {effect : Resolved → State → State}
    (h : ∀ r s, Effect i r s (effect r s, 0)) :
    Performs i (fun params s => performPlain params i effect s) :=
  ⟨_, fun _ _ => rfl, h⟩

theorem performRead_performs {effect : Byte → State → State}
    (h : ∀ m r s, Effect i r s (effect m s, 0)) :
    Performs i (fun params s => performRead params i effect s) :=
  performPlain_performs fun r s => h _ r s

theorem performImplied_performs {effect : State → State}
    (h : ∀ r s, Effect i r s (effect s, 0)) :
    Performs i (fun params s => performImplied params i effect s) :=
  performPlain_performs h

theorem runShift_performs (k : Shift) (hm : i.mnemonic ∈ [.ASL, .LSR, .ROL, .ROR]) :
    Performs i (fun params s => runShift params k i s) :=
  performPlain_performs fun _ _ => .shift _ _ hm

theorem runMemoryUpdate_performs (f : Byte → Byte) (hm : i.mnemonic ∈ [.INC, .DEC]) :
    Performs i (fun params s => runMemoryUpdate params f i s) :=
  performPlain_performs fun _ _ => .updateMemory _ hm

theorem runBranch_performs (taken : State → Bool) (hm : i.mnemonic ∈ branchMnemonics) :
    Performs i (fun params s => runBranch params taken i s) :=
  ⟨_, fun _ _ => rfl, fun r s => .branch r s (taken s) hm⟩

end

/-- Every documented instruction performs one of the listed effects. -/
theorem execWith_performs (i : Instr) (hi : i.mnemonic ≠ .UNIMPLEMENTED) :
    Performs i (fun params s => execWith params i s) := by
  cases hm : i.mnemonic
  case UNIMPLEMENTED => exact absurd hm hi
  all_goals simp only [execWith, hm]
  case LDA | AND | ORA | EOR => exact performRead_performs fun _ _ _ => .setA _ (by simp [hm])
  case TXA | TYA => exact performImplied_performs fun _ _ => .setA _ (by simp [hm])
  case LDX => exact performRead_performs fun _ _ _ => .setX _ (by simp [hm])
  case TAX | TSX | INX | DEX => exact performImplied_performs fun _ _ => .setX _ (by simp [hm])
  case LDY => exact performRead_performs fun _ _ _ => .setY _ (by simp [hm])
  case TAY | INY | DEY => exact performImplied_performs fun _ _ => .setY _ (by simp [hm])
  case TXS => exact performImplied_performs fun _ _ => .setSP hm
  case STA | STX | STY => exact performPlain_performs fun _ _ => .store _ (by simp [hm])
  case ADC => exact performRead_performs fun _ _ _ => .adc _ hm
  case SBC => exact performRead_performs fun _ _ _ => .sbc _ hm
  case CMP | CPX | CPY => exact performRead_performs fun _ _ _ => .compare _ _ (by simp [hm])
  case BIT => exact performRead_performs fun _ _ _ => .bitTest _ hm
  case ASL | LSR | ROL | ROR => exact runShift_performs _ (by simp [hm])
  case INC | DEC => exact runMemoryUpdate_performs _ (by simp [hm])
  case CLC | CLD | CLI | CLV | SEC | SED | SEI =>
    exact performImplied_performs fun _ _ => .setFlag _ _ (by simp [hm])
  case PHA | PHP => exact performImplied_performs fun _ _ => .push _ (by simp [hm])
  case PLA => exact performImplied_performs fun _ _ => .pullA hm
  case PLP => exact performImplied_performs fun _ _ => .pullStatus hm
  case JMP => exact performPlain_performs fun _ _ => .jump hm
  case JSR => exact performPlain_performs fun _ _ => .call hm
  case RTS => exact performImplied_performs fun _ _ => .ret hm
  case BCC | BCS | BEQ | BMI | BNE | BPL | BVC | BVS => exact runBranch_performs _ (by simp [hm])
  case NOP => exact performImplied_performs fun _ _ => .nop hm
  case BRK => exact performImplied_performs fun _ _ => .brk hm
  case RTI => exact performImplied_performs fun _ _ => .rti hm

/-- Everything a documented instruction can do under any parameters: one of the listed effects, the
same under all of them, and its charge (41_dispatch.md R121, R122). -/
theorem execWith_effect (i : Instr) (s : State) (hi : i.mnemonic ≠ .UNIMPLEMENTED) :
    ∃ d, Effect i (resolvedOf i s) { s with pc := nextPC i s } d ∧
      ∀ params, execWith params i s = .next (d.1.charge params
        (params.costs i.opcode + d.2 + pagePenalty i.mnemonic (resolvedOf i s).crossed)) := by
  obtain ⟨effect, hrun, heffect⟩ := execWith_performs i hi
  exact ⟨_, heffect _ _, fun params => (hrun params s).trans (perform_eq params i effect s)⟩

/-- Everything `exec` can do: the event of an empty slot, or a listed effect and its charge. -/
theorem exec_cases {i : Instr} {s t : State} (h : exec i s = .next t) :
    (i.mnemonic = .UNIMPLEMENTED ∧
      t = { s with pc := s.pc + 1#16, cyc := s.cyc + 2, diag := s.diag ++ [⟨i.opcode, s.pc⟩] }) ∨
    (i.mnemonic ≠ .UNIMPLEMENTED ∧ ∃ d, Effect i (resolvedOf i s) { s with pc := nextPC i s } d ∧
      t = { d.1 with cyc := d.1.cyc + (baseCycles i.opcode + d.2 +
        pagePenalty i.mnemonic (resolvedOf i s).crossed) }) := by
  rw [exec_eq_execWith] at h
  rcases execWith_cases i with ⟨hi, hexec⟩ | ⟨hi, _⟩
  · rw [hexec] at h
    cases h
    exact Or.inl ⟨hi, rfl⟩
  · obtain ⟨d, hd, hexec⟩ := execWith_effect i s hi
    rw [hexec] at h
    cases h
    exact Or.inr ⟨hi, d, hd, rfl⟩

/-! The frames of the effects: a class that writes the field has its mnemonics among those left out,
and the record lemmas show that no other class writes it. -/

section
variable {i : Instr} {r : Resolved} {s : State} {d : State × Nat}

theorem Effect.a_eq (h : Effect i r s d)
    (hm : i.mnemonic ∉ [.LDA, .TXA, .TYA, .PLA, .ADC, .SBC, .AND, .ORA, .EOR])
    (ho : i.operand ≠ .accumulator) : d.1.a = s.a := by
  cases h
  case shift => simp [storeOperand_a, ho]
  all_goals simp_all

theorem Effect.x_eq (h : Effect i r s d) (hm : i.mnemonic ∉ [.LDX, .TAX, .TSX, .INX, .DEX]) :
    d.1.x = s.x := by
  cases h <;> simp_all

theorem Effect.y_eq (h : Effect i r s d) (hm : i.mnemonic ∉ [.LDY, .TAY, .INY, .DEY]) :
    d.1.y = s.y := by
  cases h <;> simp_all

theorem Effect.sp_eq (h : Effect i r s d)
    (hm : i.mnemonic ∉ [.TXS, .PHA, .PHP, .PLA, .PLP, .JSR, .RTS, .BRK, .RTI]) :
    d.1.sp = s.sp := by
  cases h <;> simp_all

theorem Effect.cyc_eq (h : Effect i r s d) : d.1.cyc = s.cyc := by
  cases h <;> simp

theorem Effect.diag_eq (h : Effect i r s d) : d.1.diag = s.diag := by
  cases h <;> simp

/-- No effect but a load of all of SR writes a flag that its mnemonic does not write by R34. -/
theorem Effect.flag_eq (h : Effect i r s d) (f : Flag) (hp : i.mnemonic ∉ [.PLP, .RTI])
    (hf : i.mnemonic ∉ flagWriters f) : d.1.flag f = s.flag f := by
  cases h
  case setSP | store | push | jump | call | ret | branchTaken | branchNotTaken | nop => rfl
  case pullStatus hm | rti hm => simp [hm] at hp
  case setFlag g b hm =>
    have hne : f ≠ g := by
      rintro rfl
      cases f <;> simp_all [flagWriters]
    simp [hne]
  all_goals
    cases f <;> simp_all [flagWriters, getFlag_sr, State.flag_adc, State.flag_sbc,
      State.flag_compare, State.flag_bitTest]

/-- No effect clears Unused, and a load of all of SR sets it (R29). -/
theorem Effect.flag_unused (h : Effect i r s d) (hs : s.flag .U = true) : d.1.flag .U = true := by
  by_cases hp : i.mnemonic = .PLP ∨ i.mnemonic = .RTI
  · rcases hp with hp | hp <;> cases h <;> simp_all
  · rw [h.flag_eq .U (by simpa using hp) (by simp [flagWriters]), hs]

/-- An effect adds cycles only as a branch, one or two (45_control.md R230). -/
theorem Effect.extra_cycles (h : Effect i r s d) :
    d.2 = 0 ∨ i.mnemonic ∈ branchMnemonics ∧ d.2 ≤ 2 := by
  cases h
  case branchTaken hm =>
    refine Or.inr ⟨hm, ?_⟩
    show 1 + bit r.crossed ≤ 2
    cases r.crossed <;> decide
  all_goals exact Or.inl rfl

/-- Every effect keeps the canonical form of memory: what it stores goes through a byte's write. -/
theorem Effect.mem_wf (h : Effect i r s d) (hs : Memory.wf s.mem) : Memory.wf d.1.mem := by
  cases h
  case store v _ => exact State.writeByte_wf r.ea v hs
  case shift c v _ => exact storeOperand_wf i.operand r.ea v hs
  case updateMemory v _ => exact State.writeByte_wf r.ea v hs
  case push v _ => exact State.push8_wf v hs
  case call => exact State.push16_wf _ hs
  case brk => exact State.enterInterrupt_wf _ _ _ hs
  all_goals exact hs

/-- Every effect keeps the invariant. -/
theorem Effect.inv (h : Effect i r s d) (hs : s.Inv) : d.1.Inv :=
  ⟨h.mem_wf hs.1, h.flag_unused hs.2⟩

end

end Sys2Proof.Machine
end

section
/-! SUPPORT. The opcode of what the decoder answers (30_encoding.md R88, R90), and what a step, irq()
and nmi() add to CYC, at the defaults and under any parameters (30_encoding.md R87, 41_dispatch.md
R122, R123). -/

namespace Sys2Proof.Machine

open Sys2Proof

theorem decodeBytes_opcode (op b1 b2 : Byte) : (decodeBytes op b1 b2).opcode = op := by
  refine byte_cases (P := fun op => (decodeBytes op b1 b2).opcode = op) (fun n hn => ?_) op
  interval_cases n <;> rfl

theorem decodeBytes_unimplemented_iff (op b1 b2 : Byte) :
    (decodeBytes op b1 b2).mnemonic = .UNIMPLEMENTED ↔ isEmptySlot op = true := by
  refine byte_cases (P := fun op => (decodeBytes op b1 b2).mnemonic = .UNIMPLEMENTED ↔
    isEmptySlot op = true) (fun n hn => ?_) op
  interval_cases n <;> exact of_decide_eq_true rfl

theorem fetch_opcode (s : State) : (fetch s).opcode = s.readByte s.pc := decodeBytes_opcode _ _ _

theorem fetch_unimplemented_iff (s : State) :
    (fetch s).mnemonic = .UNIMPLEMENTED ↔ isEmptySlot (s.readByte s.pc) = true :=
  decodeBytes_unimplemented_iff _ _ _

theorem paysPageCross_iff (m : Mnemonic) :
    paysPageCross m = true ↔ m ∈ [.LDA, .LDX, .LDY, .ADC, .SBC, .AND, .ORA, .EOR, .CMP] := by
  cases m <;> decide

theorem pagePenalty_eq (m : Mnemonic) (crossed : Bool) :
    pagePenalty m crossed =
      if crossed = true ∧ m ∈ [.LDA, .LDX, .LDY, .ADC, .SBC, .AND, .ORA, .EOR, .CMP]
      then 1 else 0 := by
  simp only [pagePenalty, bit, Bool.and_eq_true, paysPageCross_iff, and_comm]

theorem pagePenalty_cases (m : Mnemonic) (crossed : Bool) :
    pagePenalty m crossed = 0 ∨ pagePenalty m crossed = 1 ∧ paysPageCross m = true := by
  unfold pagePenalty
  cases paysPageCross m <;> cases crossed <;> decide

/-- R87: a documented base cost is 2 to 7; at most 6 where a page crossing is paid, and 2 at a
branch. -/
theorem baseCycles_bounds (i : Instr) (hi : i.mnemonic ≠ .UNIMPLEMENTED) :
    2 ≤ baseCycles i.opcode ∧ baseCycles i.opcode ≤ 7 ∧
    (paysPageCross i.mnemonic = true → baseCycles i.opcode ≤ 6) ∧
    (i.mnemonic ∈ branchMnemonics → baseCycles i.opcode = 2) := by
  cases i
  case unimplemented op => exact absurd rfl hi
  all_goals exact of_decide_eq_true rfl

/-- What an effect, its base cost and its penalty add to CYC. -/
theorem Effect.cost_bounds {i : Instr} {r : Resolved} {s : State} {d : State × Nat}
    (h : Effect i r s d) (hi : i.mnemonic ≠ .UNIMPLEMENTED) (crossed : Bool) :
    2 ≤ baseCycles i.opcode + d.2 + pagePenalty i.mnemonic crossed ∧
    baseCycles i.opcode + d.2 + pagePenalty i.mnemonic crossed ≤ 7 := by
  obtain ⟨hlow, hhigh, hpays, hbranch⟩ := baseCycles_bounds i hi
  have hpen := pagePenalty_cases i.mnemonic crossed
  rcases h.extra_cycles with hextra | ⟨hm, hextra⟩
  · rcases hpen with hpen | ⟨hpen, hp⟩
    · omega
    · have hbase := hpays hp
      omega
  · have hbase := hbranch hm
    omega

theorem wrapCycles_eq_shownCycles (w : CycleWidth) (k : Nat) :
    wrapCycles w k = Claims.shownCycles w k := by
  cases w <;> rfl

/-- A step takes 2 to 7 cycles. -/
theorem step_cyc_bounds {s t : State} (h : step s = .next t) :
    s.cyc + 2 ≤ t.cyc ∧ t.cyc ≤ s.cyc + 7 := by
  rcases exec_cases h with ⟨_, rfl⟩ | ⟨hi, d, hd, rfl⟩
  · simp
  · obtain ⟨hlow, hhigh⟩ := hd.cost_bounds hi (resolvedOf (fetch s) s).crossed
    have hcyc := hd.cyc_eq
    simp only at hcyc ⊢
    omega

/-- Under other parameters an instruction leaves another count, and nothing else. -/
theorem execWith_count (params : Params) (i : Instr) (s : State) : ∃ t u count,
    execWith params i s = .next t ∧ exec i s = .next u ∧
    t = { u with cyc := Claims.shownCycles params.cycleWidth count } ∧
    (if i.mnemonic = .UNIMPLEMENTED then count = u.cyc
     else count + baseCycles i.opcode = u.cyc + params.costs i.opcode) := by
  simp only [exec_eq_execWith, ← wrapCycles_eq_shownCycles]
  rcases execWith_cases i with ⟨hi, hrun⟩ | ⟨hi, _⟩
  · refine ⟨_, _, s.cyc + unimplementedCycles, hrun params s, hrun defaultParams s, rfl, ?_⟩
    rw [if_pos hi]
    rfl
  · obtain ⟨d, hd, hrun⟩ := execWith_effect i s hi
    refine ⟨_, _, d.1.cyc + (params.costs i.opcode + d.2 +
      pagePenalty i.mnemonic (resolvedOf i s).crossed), hrun params, hrun defaultParams, rfl, ?_⟩
    rw [if_neg hi]
    simp only [State.charge_cyc, defaultParams_costs, defaultParams_cycleWidth, wrapCycles_unbounded]
    omega

/-- Under other parameters irq() and nmi() leave another count, and nothing else. -/
theorem host_interrupt_count (params : Params) (s : State) :
    (s.flag .I = true → hostIrq s params = s) ∧
    (s.flag .I = false → hostIrq s params =
      { hostIrq s with cyc := Claims.shownCycles params.cycleWidth (s.cyc + 7) }) ∧
    hostNmi s params =
      { hostNmi s with cyc := Claims.shownCycles params.cycleWidth (s.cyc + 8) } := by
  simp only [← wrapCycles_eq_shownCycles]
  refine ⟨fun h => if_pos h, fun h => ?_, ?_⟩
  · simp [hostIrq, h, State.charge, irqCycles]
  · simp [hostNmi, State.charge, nmiCycles]

/-- Unbounded and under a table that is positive on the documented opcodes, CYC rises. -/
theorem stepWith_cyc_lt {params : Params} {s t : State} (hw : params.cycleWidth = .unbounded)
    (hpos : ∀ op, isEmptySlot op = false → 0 < params.costs op) (h : stepWith params s = .next t) :
    s.cyc < t.cyc := by
  rw [stepWith] at h
  rcases execWith_cases (fetch s) with ⟨_, hrun⟩ | ⟨hi, _⟩
  · rw [hrun] at h
    cases h
    simp [hw, unimplementedCycles]
  · obtain ⟨d, hd, hrun⟩ := execWith_effect (fetch s) s hi
    have hcost := hpos (fetch s).opcode (by
      rw [fetch_opcode, ← Bool.not_eq_true, ← fetch_unimplemented_iff]
      exact hi)
    have hcyc := hd.cyc_eq
    rw [hrun] at h
    cases h
    simp only [State.charge_cyc, hw, wrapCycles_unbounded] at hcyc ⊢
    omega

end Sys2Proof.Machine
end

section
/-! SUPPORT. The invariant along every host operation and every list of them (10_state.md R29,
41_dispatch.md R133, R135). -/

namespace Sys2Proof.Machine

open Sys2Proof

theorem State.reset_inv : State.reset.Inv := ⟨State.reset_mem_wf, rfl⟩

theorem exec_inv {i : Instr} {s t : State} (hs : s.Inv) (h : exec i s = .next t) : t.Inv := by
  rcases exec_cases h with ⟨_, rfl⟩ | ⟨_, d, hd, rfl⟩
  · exact hs
  · exact hd.inv hs

theorem step_inv {s t : State} (hs : s.Inv) (h : step s = .next t) : t.Inv := exec_inv hs h

theorem State.enterInterrupt_inv {s : State} (returnPC : Word) (pushed : Byte) (vector : Word)
    (hs : s.Inv) : (s.enterInterrupt returnPC pushed vector).Inv :=
  ⟨State.enterInterrupt_wf returnPC pushed vector hs.1, by simp [hs.2]⟩

theorem hostReset_inv {s : State} (hs : s.Inv) : (hostReset s).Inv := by
  have hsr : getFlag .U Config.resetSR = true := by decide
  exact ⟨hs.1, hsr⟩

theorem hostIrq_inv {s : State} (hs : s.Inv) : (hostIrq s).Inv := by
  unfold hostIrq
  split
  · exact hs
  · exact State.enterInterrupt_inv s.pc (statusBreakClear s.sr) irqVector hs

theorem hostNmi_inv {s : State} (hs : s.Inv) : (hostNmi s).Inv :=
  State.enterInterrupt_inv s.pc (statusBreakClear s.sr) nmiVector hs

theorem hostRun_inv (n : Nat) {s t : State} (hs : s.Inv) (h : hostRun n s = .next t) : t.Inv := by
  induction n generalizing s with
  | zero => cases h; exact hs
  | succ n ih =>
    rw [hostRun, ← step_eq_stepWith] at h
    cases hstep : step s with
    | next u => exact ih (step_inv hs hstep) (by simpa only [hstep] using h)
    | fault f => cases f
    | refused r => simp [hstep] at h

theorem placeBytes_sr (bytes : List Byte) (k : Word) (s : State) :
    (placeBytes s k bytes).sr = s.sr := by
  have h := congrArg State.sr (placeBytes_frame bytes s k)
  exact h

theorem placeBytes_inv (bytes : List Byte) (k : Word) {s : State} (hs : s.Inv) :
    (placeBytes s k bytes).Inv := by
  refine ⟨placeBytes_wf bytes k hs.1, ?_⟩
  rw [State.flag_of_sr _ _ (placeBytes_sr bytes k s), hs.2]

theorem hostCall_inv (c : HostCall) {s t : State} (hs : s.Inv) (h : hostCall c s = .next t) :
    t.Inv := by
  cases c with
  | reset => cases h; exact hostReset_inv hs
  | step => exact step_inv hs ((step_eq_stepWith s).trans h)
  | run n => exact hostRun_inv n hs h
  | loadProgram bytes start => cases h; exact placeBytes_inv _ _ hs
  | irq => cases h; exact hostIrq_inv hs
  | nmi => cases h; exact hostNmi_inv hs
  | setMemory addr byte => cases h; exact ⟨State.writeByte_wf _ _ hs.1, hs.2⟩

theorem hostCalls_inv (calls : List HostCall) {s t : State} (hs : s.Inv)
    (h : hostCalls calls s = .next t) : t.Inv := by
  induction calls generalizing s with
  | nil => cases h; exact hs
  | cons c rest ih =>
    rw [hostCalls] at h
    cases hcall : hostCall c s with
    | next u => exact ih (hostCall_inv c hs hcall) (by simpa only [hcall] using h)
    | fault f => cases f
    | refused r => simp [hcall] at h

end Sys2Proof.Machine
end

section
/-! The settled statements of the state's family (10_state.md). -/

namespace Sys2Proof.Machine

open Sys2Proof

/-- Settles O58: whatever effect the fetched instruction has, it keeps the invariant. -/
theorem stepKeepsInvariant : Obligations.StepKeepsInvariant := fun _ _ hs h => step_inv hs h

/-- Settles O60: every host operation keeps the invariant, by induction every list of them. -/
theorem reachableStatesHaveInvariant : Obligations.ReachableStatesHaveInvariant :=
  ⟨fun c _ _ hs h => hostCall_inv c hs h, fun _ ⟨calls, h⟩ => hostCalls_inv calls State.reset_inv h⟩

/-- Settles O8: each clause is the bound or the equation proved above. -/
theorem cycleCosts : Obligations.CycleCosts :=
  ⟨fun _ _ => step_cyc_bounds,
    fun i hi => ⟨(baseCycles_bounds i hi).1, (baseCycles_bounds i hi).2.1⟩,
    fun i crossed => pagePenalty_eq i.mnemonic crossed,
    rfl, rfl, rfl, rfl, rfl, rfl, step_eq_stepWith, execWith_count, host_interrupt_count,
    fun _ _ _ => stepWith_cyc_lt⟩

/-- Settles O13: a flag is its bit under its mask, and a write of one bit leaves the other seven. -/
theorem setFlagWritesOneFlag : Obligations.SetFlagWritesOneFlag := by
  refine ⟨rfl, fun s f g b v => ⟨getFlag_eq_mask f s.sr, State.flag_setFlag s f g b, rfl, ?_, rfl⟩⟩
  rw [State.flag_writeStatus, getFlag_eq_mask]

/-- Settles O53: each register's frame is that of the listed effects. -/
theorem registerFrame : Obligations.RegisterFrame := by
  intro i s t h
  rcases exec_cases h with ⟨_, rfl⟩ | ⟨_, d, hd, rfl⟩
  · exact ⟨fun _ _ => rfl, fun _ => rfl, fun _ => rfl, fun _ => rfl⟩
  · exact ⟨hd.a_eq, hd.x_eq, hd.y_eq, hd.sp_eq⟩

/-- Settles O54: each flag's frame is that of the listed effects. -/
theorem flagFrame : Obligations.FlagFrame := by
  intro i s t h hp
  have hkeep : ∀ f, i.mnemonic ∉ flagWriters f → t.flag f = s.flag f := by
    intro f hf
    rcases exec_cases h with ⟨_, rfl⟩ | ⟨_, d, hd, rfl⟩
    · rfl
    · exact hd.flag_eq f hp hf
  exact ⟨hkeep .C, fun hm => ⟨hkeep .Z hm, hkeep .N hm⟩, hkeep .I, hkeep .D, hkeep .V,
    hkeep .B List.not_mem_nil, hkeep .U List.not_mem_nil⟩

/-- Settles O57: an empty slot's event adds the record, and no effect touches DIAG. -/
theorem diagnosticLogGrows : Obligations.DiagnosticLogGrows := by
  intro s t h
  rcases exec_cases h with ⟨hi, rfl⟩ | ⟨hi, d, hd, rfl⟩
  · rw [if_pos ((fetch_unimplemented_iff s).mp hi), fetch_opcode]
  · rw [if_neg (mt (fetch_unimplemented_iff s).mpr hi)]
    exact hd.diag_eq

/-- Settles O14: `setZN` writes two flags, and its tests are those of the byte as a number. -/
theorem setZNWritesZeroAndNegative : Obligations.SetZNWritesZeroAndNegative := by
  refine fun s v => ⟨fun f => ?_, rfl⟩
  have hzero : (v == 0#8) = decide (v.toNat = 0) := by
    rw [Bool.eq_iff_iff, beq_iff_eq, decide_eq_true_iff, ← BitVec.toNat_inj, BitVec.toNat_ofNat,
      Nat.zero_mod]
  cases f <;> simp [Claims.znFlags, BitVec.msb_eq_decide, hzero]

/-- Settles O59: no cell is listed, and the reset value of SR has Unused set. -/
theorem resetHasInvariant : Obligations.ResetHasInvariant := State.reset_inv

end Sys2Proof.Machine
end

section
/-! SUPPORT. Addresses and bytes as masked natural numbers, and a pop after a push (20_memory.md R53
to R67). -/

namespace Sys2Proof.Machine

open Sys2Proof

theorem zext16_eq_ofNat (b : Byte) : zext16 b = BitVec.ofNat 16 b.toNat :=
  (BitVec.ofNat_toNat 16 b).symm

/-- An address one higher, as a number mod 65536 (R53). -/
theorem add_one_eq_ofNat (a : Word) : a + 1#16 = BitVec.ofNat 16 ((a.toNat + 1) % 65536) := by
  rw [← BitVec.toNat_inj, BitVec.toNat_add]
  simp

/-- An address one higher within page zero, as a number mod 256 (R55). -/
theorem zext16_add_one_eq_ofNat (p : Byte) :
    zext16 (p + 1#8) = BitVec.ofNat 16 ((p.toNat + 1) % 256) := by
  rw [zext16_eq_ofNat, BitVec.toNat_add]
  rfl

/-- Masking an address before it is made a word changes nothing. -/
theorem ofNat16_mask (n : Nat) : BitVec.ofNat 16 (n % 65536) = BitVec.ofNat 16 n := by
  rw [← BitVec.toNat_inj]
  simp

/-- Masking a value before it is made a byte changes nothing. -/
theorem ofNat8_mask (n : Nat) : BitVec.ofNat 8 (n % 256) = BitVec.ofNat 8 n := by
  rw [← BitVec.toNat_inj]
  simp

/-- Two numbers name one cell exactly when they agree mod 65536. -/
theorem ofNat16_inj {m n : Nat} :
    BitVec.ofNat 16 m = BitVec.ofNat 16 n ↔ m % 65536 = n % 65536 := by
  rw [← BitVec.toNat_inj, BitVec.toNat_ofNat, BitVec.toNat_ofNat]

theorem stackAddr_eq_ofNat (sp : Byte) : stackAddr sp = BitVec.ofNat 16 (0x0100 + sp.toNat) := by
  rw [← stackAddr_toNat, BitVec.ofNat_toNat, BitVec.setWidth_eq]

theorem sub_one_ne_self (sp : Byte) : sp - 1#8 ≠ sp := by bv_omega

theorem sub_one_sub_one (sp : Byte) : sp - 1#8 - 1#8 = sp - 2#8 := by bv_omega

/-- A pop after a push returns the byte pushed (R64). -/
@[simp] theorem State.popByte_push8 (s : State) (v : Byte) : (s.push8 v).popByte = v := by
  rw [State.popByte, State.readByte_push8, State.push8_sp, BitVec.sub_add_cancel, if_pos rfl]

/-- A pop after a push leaves the byte stored and SP as it was (R64). -/
theorem State.popped_push8 (s : State) (v : Byte) :
    (s.push8 v).popped = s.writeByte (stackAddr s.sp) v := by
  rw [State.popped, State.push8_sp, BitVec.sub_add_cancel]
  rfl

/-- A pop of a word after its push returns it: the low byte is popped first, the high byte from the
cell above, which the low byte's push left alone (R61, R64). -/
@[simp] theorem State.popWord_push16 (s : State) (w : Word) : (s.push16 w).popWord = w := by
  have hlow : (s.push16 w).popByte = lo w := State.popByte_push8 _ _
  have hhigh : (s.push16 w).popped.popByte = hi w := by
    rw [State.popByte, State.readByte_popped, State.popped_sp, State.push16_sp,
      BitVec.sub_add_cancel, BitVec.sub_add_cancel, State.readByte_push16,
      if_neg (by simp [(sub_one_ne_self s.sp).symm]), if_pos rfl]
  rw [State.popWord, hlow, hhigh, word_hi_lo]

/-- Memory after a word's push, from the upper cell down: the two cells differ (R60). -/
theorem State.readByte_push16_downward (s : State) (w : Word) (k : Word) :
    (s.push16 w).readByte k =
      if k = stackAddr s.sp then hi w
      else if k = stackAddr (s.sp - 1#8) then lo w else s.readByte k := by
  have hne : stackAddr s.sp ≠ stackAddr (s.sp - 1#8) := by simp [(sub_one_ne_self s.sp).symm]
  rw [State.readByte_push16]
  by_cases hk : k = stackAddr s.sp
  · subst hk
    rw [if_neg hne, if_pos rfl, if_pos rfl]
  · rw [if_neg hk, if_neg hk]

end Sys2Proof.Machine
end

section
/-! SUPPORT. The cells an instruction may store to (20_memory.md R58, R60, R62;
47_interrupt_instr.md R292). -/

namespace Sys2Proof.Machine

open Sys2Proof

/-- The cells that `i`, with effective address `ea` and stack pointer `sp`, may store to. -/
inductive StoresTo (i : Instr) (ea : Word) (sp : Byte) : Word → Prop
  | store (hm : i.mnemonic ∈ [.STA, .STX, .STY]) : StoresTo i ea sp ea
  | shift (hm : i.mnemonic ∈ [.ASL, .LSR, .ROL, .ROR]) (ho : i.operand ≠ .accumulator) :
      StoresTo i ea sp ea
  | updateMemory (hm : i.mnemonic ∈ [.INC, .DEC]) : StoresTo i ea sp ea
  | firstPush (hm : i.mnemonic ∈ [.PHA, .PHP, .JSR, .BRK]) : StoresTo i ea sp (stackAddr sp)
  | secondPush (hm : i.mnemonic ∈ [.JSR, .BRK]) : StoresTo i ea sp (stackAddr (sp - 1#8))
  | thirdPush (hm : i.mnemonic = .BRK) : StoresTo i ea sp (stackAddr (sp - 2#8))

/-- Only the shifts and rotates have the ACCUMULATOR mode. -/
theorem mnemonic_of_accumulator {i : Instr} (ho : i.operand = .accumulator) :
    i.mnemonic ∈ [.ASL, .LSR, .ROL, .ROR] := by
  cases i
  case aslAcc | lsrAcc | rolAcc | rorAcc => decide
  all_goals cases ho

/-- An effect changes no cell but those its instruction stores to. -/
theorem Effect.readByte_eq {i : Instr} {r : Resolved} {s : State} {d : State × Nat}
    (h : Effect i r s d) {k : Word} (hk : ¬ StoresTo i r.ea s.sp k) :
    d.1.readByte k = s.readByte k := by
  have hne {c : Word} (hc : StoresTo i r.ea s.sp c) : k ≠ c := fun hkc => hk (hkc ▸ hc)
  cases h
  case store v hm => rw [State.readByte_writeByte, if_neg (hne (.store hm))]
  case updateMemory v hm =>
    rw [State.readByte_setZN, State.readByte_writeByte, if_neg (hne (.updateMemory hm))]
  case shift c v hm =>
    rw [State.readByte_setZN, storeOperand_readByte, if_neg fun hc => hne (.shift hm hc.1) hc.2,
      State.readByte_setFlag]
  case push v hm => rw [State.readByte_push8, if_neg (hne (.firstPush (by grind)))]
  case call hm =>
    rw [State.readByte_pc, State.readByte_push16, if_neg (hne (.secondPush (by simp [hm]))),
      if_neg (hne (.firstPush (by simp [hm])))]
  case brk hm =>
    rw [State.readByte_enterInterrupt, sub_one_sub_one, if_neg (hne (.thirdPush hm)),
      if_neg (hne (.secondPush (by simp [hm]))), if_neg (hne (.firstPush (by simp [hm])))]
  all_goals rfl

/-- An instruction changes no cell but those it stores to; an empty slot stores to none. -/
theorem exec_readByte {i : Instr} {s t : State} (h : exec i s = .next t) {k : Word}
    (hk : ¬ StoresTo i (resolvedOf i s).ea s.sp k) : t.readByte k = s.readByte k := by
  rcases exec_cases h with ⟨_, rfl⟩ | ⟨_, d, hd, rfl⟩
  · rfl
  · exact hd.readByte_eq hk

end Sys2Proof.Machine
end

section
/-! The settled statements of the memory's family (20_memory.md). -/

namespace Sys2Proof.Machine

open Sys2Proof

/-- Settles O10: each read pairs two bytes, and each wrap is that of the width its address is added
in. -/
theorem wordReads : Obligations.WordReads := by
  intro s a p
  rw [State.readWord, State.readZP16, word_toNat, word_toNat, add_one_eq_ofNat,
    zext16_add_one_eq_ofNat, zext16_eq_ofNat]
  exact ⟨rfl, rfl⟩

/-- Settles O11: the pop raises SP back to the cell the push stored to. -/
theorem pushThenPop : Obligations.PushThenPop := by
  intro s v
  refine ⟨State.popByte_push8 s v, ?_, ?_, ?_, rfl⟩
  · rw [State.popped_push8, State.writeByte_sp]
  · rw [State.push8_sp, BitVec.toNat_sub]
    simp [Nat.add_comm]
  · rw [← stackAddr_eq_ofNat]
    exact State.readByte_push8 s v

/-- Settles O12: the two pushes use two different cells, which the pops read back. -/
theorem pushWordThenPopWord : Obligations.PushWordThenPopWord := by
  intro s w
  refine ⟨State.popWord_push16 s w, ?_, State.readByte_push16_downward s w, rfl⟩
  rw [State.popped_sp, State.popped_sp, State.push16_sp, BitVec.sub_add_cancel,
    BitVec.sub_add_cancel]

/-- Settles O51: loading one byte more stores it after the others, and every mask is the one that
making a word or a byte of a number applies. -/
theorem hostMemoryOperations : Obligations.HostMemoryOperations := by
  refine ⟨fun bytes b start s => ⟨rfl, ?_, placeBytes_frame _ s _⟩,
    fun addr other byte s => ⟨?_, ?_, rfl⟩⟩
  · rw [hostLoadProgram, List.map_append, List.map_singleton, placeBytes_append, List.length_map,
      ← BitVec.ofNat_add, ofNat16_mask, ofNat8_mask]
    rfl
  · rw [hostGetMemory, ofNat16_mask]
  · rw [hostGetMemory, hostSetMemory, State.readByte_writeByte, ofNat8_mask, hostGetMemory]
    simp only [ofNat16_inj]

/-- Settles O55: in each clause the mnemonic leaves only the cells named there to be stored to. -/
theorem memoryFrame : Obligations.MemoryFrame := by
  intro i s t h
  refine ⟨fun hm k => ?_, fun hm k hea => ?_, fun hm k hfirst => ?_,
    fun hm k hfirst hsecond => ?_, fun hm k hfirst hsecond hthird => ?_⟩
  all_goals refine exec_readByte h fun hst => ?_
  · rcases hm with hm | ho
    · simp only [List.mem_cons, List.not_mem_nil, or_false] at hm
      cases hst <;> grind
    · have hm := mnemonic_of_accumulator ho
      cases hst <;> grind
  · simp only [List.mem_cons, List.not_mem_nil, or_false] at hm
    cases hst <;> grind
  · cases hst <;> grind
  · cases hst <;> grind
  · cases hst <;> grind

/-- Settles O9: a read after a write, on any list of cells. -/
theorem writeChangesOneByte : Obligations.WriteChangesOneByte :=
  fun s a v => ⟨fun k => State.readByte_writeByte s a k v, rfl⟩

end Sys2Proof.Machine
end

section
/-! SUPPORT. An instruction is fixed by its opcode byte and its operand bytes: what the decoder
answers on them, and how many it reads (30_encoding.md R80 to R90). -/

namespace Sys2Proof

open Sys2Proof.Machine

/-- The operand of the same mode that the bytes `b1` and `b2` give (R81, R83). -/
def Operand.reread (o : Operand) (b1 b2 : Byte) : Operand :=
  match o with
  | .implied => .implied
  | .accumulator => .accumulator
  | .immediate _ => .immediate b1
  | .zeroPage _ => .zeroPage b1
  | .zeroPageX _ => .zeroPageX b1
  | .zeroPageY _ => .zeroPageY b1
  | .absolute _ => .absolute (word b2 b1)
  | .absoluteX _ => .absoluteX (word b2 b1)
  | .absoluteY _ => .absoluteY (word b2 b1)
  | .absoluteIndirect _ => .absoluteIndirect (word b2 b1)
  | .indirectX _ => .indirectX b1
  | .indirectY _ => .indirectY b1
  | .relative _ => .relative b1

/-- An operand is read back from the bytes of its encoding, whatever follows them. -/
theorem Operand.reread_operandBytes (o : Operand) (rest : List Byte) :
    o.reread ((operandBytes o ++ rest).getD 0 0#8) ((operandBytes o ++ rest).getD 1 0#8) = o := by
  cases o
  case absolute w | absoluteX w | absoluteY w | absoluteIndirect w =>
    simp [Operand.reread, operandBytes]
  all_goals rfl

/-- Only the constructor of the empty slots has the mnemonic UNIMPLEMENTED (R88). -/
theorem Instr.mnemonic_eq_unimplemented_iff (i : Instr) :
    i.mnemonic = .UNIMPLEMENTED ↔ i = .unimplemented i.opcode := by
  cases i
  case unimplemented op => exact iff_of_true rfl rfl
  all_goals exact iff_of_false nofun nofun

/-- The decoder answers the empty slot exactly on the bytes of R88. -/
theorem decodeBytes_eq_unimplemented_iff (op b1 b2 : Byte) :
    decodeBytes op b1 b2 = .unimplemented op ↔ isEmptySlot op = true := by
  rw [← decodeBytes_unimplemented_iff op b1 b2, Instr.mnemonic_eq_unimplemented_iff,
    decodeBytes_opcode]

/-- A documented opcode byte decodes to its own instruction (R87), with the operand the bytes give;
the byte of an empty slot to that slot. -/
theorem decodeBytes_of_reread {i : Instr} {b1 b2 : Byte} (hi : i.WellFormed)
    (ho : i.operand.reread b1 b2 = i.operand) : decodeBytes i.opcode b1 b2 = i := by
  cases i
  case unimplemented op => exact (decodeBytes_eq_unimplemented_iff op b1 b2).mpr hi
  all_goals cases ho; simp only [Instr.opcode, rowOf]; rfl

theorem Instr.wellFormed_of_unimplemented {i : Instr}
    (h : i.mnemonic = .UNIMPLEMENTED → isEmptySlot i.opcode = true) : i.WellFormed := by
  cases i
  case unimplemented op => exact h rfl
  all_goals rfl

theorem decodeBytes_wellFormed (op b1 b2 : Byte) : (decodeBytes op b1 b2).WellFormed := by
  refine Instr.wellFormed_of_unimplemented fun h => ?_
  rw [decodeBytes_opcode]
  exact (decodeBytes_unimplemented_iff op b1 b2).mp h

/-- The operand width follows from the opcode byte alone (R82). -/
theorem operandWidth_decodeBytes_opcode {i : Instr} (hi : i.WellFormed) (b1 b2 : Byte) :
    operandWidth (decodeBytes i.opcode b1 b2).operand = operandWidth i.operand := by
  cases i
  case unimplemented op =>
    exact congrArg (operandWidth ·.operand) ((decodeBytes_eq_unimplemented_iff op b1 b2).mpr hi)
  all_goals simp only [Instr.opcode, rowOf]; rfl

/-- The first bytes of a list, at most two, are those the decoder is given. -/
theorem take_getD_eq_take {bytes : List Byte} {k : Nat} (hk : k ≤ 2) (hlen : k ≤ bytes.length) :
    [bytes.getD 0 0#8, bytes.getD 1 0#8].take k = bytes.take k := by
  match k, bytes with
  | 0, _ => rfl
  | 1, _ :: _ => rfl
  | 2, _ :: _ :: _ => rfl

/-- What an answer of `decode` says: the instruction is that of the opcode byte and the next two,
its operand bytes are all there, and the bytes after them are left (R80, R82). -/
theorem decode_cons_eq_ok_iff {op : Byte} {tail rest : List Byte} {i : Instr} :
    decode (op :: tail) = .ok i rest ↔
      decodeBytes op (tail.getD 0 0#8) (tail.getD 1 0#8) = i ∧
      operandWidth i.operand ≤ tail.length ∧ tail.drop (operandWidth i.operand) = rest := by
  simp only [decode]
  constructor
  · intro h
    split at h
    · cases h
    · next hlen =>
      cases h
      exact ⟨rfl, Nat.le_of_not_lt hlen, rfl⟩
  · rintro ⟨rfl, hlen, rfl⟩
    exact if_neg (Nat.not_lt.mpr hlen)

end Sys2Proof
end

section
/-! The settled statements of the encoding's family (30_encoding.md). -/

namespace Sys2Proof.Machine

open Sys2Proof

/-- Settles O1: the opcode byte selects the constructor, and the operand is read back from its
bytes. -/
theorem decodeOfEncode : Obligations.DecodeOfEncode := by
  intro i rest hi
  have hwidth := (Laws.EncodingLength.operandBytes_length i.operand).1
  rw [encode, List.cons_append, decode_cons_eq_ok_iff, ← hwidth, List.length_append]
  exact ⟨decodeBytes_of_reread hi (i.operand.reread_operandBytes rest), Nat.le_add_right _ _,
    List.drop_left⟩

/-- Settles O2: the operand bytes of what is decoded are the bytes dropped. -/
theorem encodeOfDecode : Obligations.EncodeOfDecode := by
  intro bytes rest i h
  cases bytes with
  | nil => cases h
  | cons op tail =>
    obtain ⟨rfl, hlen, rfl⟩ := decode_cons_eq_ok_iff.mp h
    refine ⟨decodeBytes_wellFormed _ _ _, ?_⟩
    rw [encode, decodeBytes_opcode, decodeBytes_operandBytes,
      take_getD_eq_take (Laws.EncodingLength.operandBytes_length _).2 hlen, List.cons_append,
      List.take_append_drop]

/-- Settles O3: the answer's opcode is the byte, and its mnemonic is UNIMPLEMENTED on the empty
slots only. -/
theorem decoderIsTotal : Obligations.DecoderIsTotal := fun op b1 b2 =>
  ⟨decodeBytes_wellFormed op b1 b2, decodeBytes_opcode op b1 b2,
    decodeBytes_eq_unimplemented_iff op b1 b2⟩

/-- Settles O4: the operand width follows from the opcode byte, and an empty slot is of the IMPLIED
mode. -/
theorem lengthFromOpcode : Obligations.LengthFromOpcode := by
  intro op b1 b2 c1 c2
  obtain ⟨-, hlen, -, -⟩ := Laws.EncodingLength.of_operand (decodeBytes op b1 b2)
  have hwidth := operandWidth_decodeBytes_opcode (decodeBytes_wellFormed op c1 c2) b1 b2
  rw [decodeBytes_opcode] at hwidth
  refine ⟨congrArg (1 + ·) hwidth, rfl, hlen, fun hop => ?_⟩
  rw [(decodeBytes_eq_unimplemented_iff op b1 b2).mpr hop]
  rfl

/-- Settles O5: eight closed words, decoded by evaluation. -/
theorem specWordsDecode : Obligations.SpecWordsDecode := by
  unfold Obligations.SpecWordsDecode
  decide

end Sys2Proof.Machine
end

section
/-! SUPPORT. The functions an instruction's addressing goes through, read off its operand, and their
arithmetic as natural numbers (40_addressing.md R100 to R112). -/

namespace Sys2Proof.Machine

open Sys2Proof

section
variable {i : Instr} {o : Operand} (h : i.operand = o)
include h

theorem encode_of_operand : encode i = i.opcode :: operandBytes o := by rw [encode, h]

theorem nextPC_of_operand (s : State) :
    nextPC i s = s.pc + BitVec.ofNat 16 (1 + operandWidth o) := by rw [nextPC, Instr.length, h]

theorem resolvedOf_of_operand (s : State) : resolvedOf i s = resolve o (s.pc + 1#16) s := by
  rw [resolvedOf, h]

theorem operandByte_of_operand (s : State) :
    operandByte i s = loadOperand o (resolvedOf i s).ea s := by rw [operandByte, h]

end

/-- R81: a word's operand bytes are its low byte and its high byte, as numbers. -/
theorem lo_hi_eq_ofNat (w : Word) :
    [lo w, hi w] = [BitVec.ofNat 8 (w.toNat % 256), BitVec.ofNat 8 (w.toNat / 256)] := by
  rw [← lo_toNat, ← hi_toNat, BitVec.ofNat_toNat, BitVec.ofNat_toNat, BitVec.setWidth_eq,
    BitVec.setWidth_eq]

/-- The encoding of an instruction whose operand bytes are those of a word. -/
theorem encode_of_word_operand {i : Instr} {w : Word} (h : operandBytes i.operand = [lo w, hi w]) :
    encode i = [i.opcode, BitVec.ofNat 8 (w.toNat % 256), BitVec.ofNat 8 (w.toNat / 256)] := by
  rw [encode, h, lo_hi_eq_ofNat]

/-- `crossed` compares high bytes, which are quotients by 256. -/
theorem hi_bne_hi_iff (v w : Word) : (hi v != hi w) = true ↔ v.toNat / 256 ≠ w.toNat / 256 := by
  rw [bne_iff_ne, ne_eq, ← BitVec.toNat_inj, hi_toNat, hi_toNat]

/-- R105, R107: an index is added mod 65536. -/
theorem indexed_ea_toNat (base : Word) (index : Byte) :
    (indexed base index).ea.toNat = (base.toNat + index.toNat) % 65536 := by
  rw [indexed, BitVec.toNat_add, zext16_toNat]

/-- R105, R107: an indexed access crosses exactly when the high byte changes. -/
theorem indexed_crossed_iff (base : Word) (index : Byte) :
    (indexed base index).crossed = true ↔
      base.toNat / 256 ≠ (indexed base index).ea.toNat / 256 := hi_bne_hi_iff _ _

/-- R103: an index into page zero is added mod 256. -/
theorem zext16_add_toNat (z index : Byte) :
    (zext16 (z + index)).toNat = (z.toNat + index.toNat) % 256 := by
  rw [zext16_toNat, BitVec.toNat_add]

/-- R106: the pointer's two bytes, the second address wrapping within page zero too. -/
theorem State.readZP16_add_toNat (s : State) (z index : Byte) :
    (s.readZP16 (z + index)).toNat =
      256 * (s.readByte (BitVec.ofNat 16 ((z.toNat + index.toNat + 1) % 256))).toNat +
        (s.readByte (BitVec.ofNat 16 ((z.toNat + index.toNat) % 256))).toNat := by
  rw [State.readZP16, word_toNat, zext16_add_one_eq_ofNat, zext16_eq_ofNat, BitVec.toNat_add,
    Nat.mod_add_mod]

/-- R108: the address of the target's high byte, one higher within the pointer's page. -/
theorem word_hi_lo_add_one (w : Word) :
    word (hi w) (lo w + 1#8) = BitVec.ofNat 16 (w.toNat / 256 * 256 + (w.toNat + 1) % 256) := by
  have hlo : (lo w + 1#8).toNat = (w.toNat + 1) % 256 := by
    rw [BitVec.toNat_add, lo_toNat]
    exact Nat.mod_add_mod _ _ _
  rw [← BitVec.toNat_inj, word_toNat, hi_toNat, hlo, BitVec.toNat_ofNat]
  omega

/-- R109: RELATIVE counts from the next instruction's address. -/
theorem resolvedOf_relative {i : Instr} {r : Byte} (h : i.operand = .relative r) (s : State) :
    resolvedOf i s = ⟨nextPC i s + sext16 r, hi (nextPC i s + sext16 r) != hi (nextPC i s)⟩ := by
  have hnext : nextPC i s = s.pc + 1#16 + 1#16 := by
    rw [nextPC_of_operand h, BitVec.add_assoc]
    rfl
  rw [resolvedOf_of_operand h, hnext]
  rfl

/-- Only LDX and STX have the mode ZERO_PAGE_Y (R103). -/
theorem mnemonic_of_zeroPageY {i : Instr} {z : Byte} (h : i.operand = .zeroPageY z) :
    i.mnemonic ∈ [.LDX, .STX] := by
  cases i
  case ldxZpY | stxZpY => simp [Instr.mnemonic, rowOf]
  all_goals cases h

/-- Only JMP has the mode ABSOLUTE_INDIRECT (R108). -/
theorem mnemonic_of_absoluteIndirect {i : Instr} {w : Word}
    (h : i.operand = .absoluteIndirect w) : i.mnemonic = .JMP := by
  cases i
  case jmpInd => rfl
  all_goals cases h

/-- The operand bytes of the fetched instruction are the bytes in memory after its opcode. -/
theorem operandBytes_fetch (s : State) :
    operandBytes (fetch s).operand =
      [s.readByte (s.pc + 1#16), s.readByte (s.pc + 2#16)].take (operandWidth (fetch s).operand) :=
  decodeBytes_operandBytes _ _ _

end Sys2Proof.Machine
end

section
/-! The settled statements of the addressing modes' family (40_addressing.md). -/

namespace Sys2Proof.Machine

open Sys2Proof

/-- Settles O15: the carried byte is the first operand byte, which the fetch read at PC + 1. -/
theorem immediateMode : Obligations.ImmediateMode := by
  intro s v h
  have hbytes := operandBytes_fetch s
  rw [h] at hbytes
  have hv : v = s.readByte (s.pc + 1#16) := (List.cons.inj hbytes).1
  rw [resolvedOf_of_operand h, operandByte_of_operand h]
  exact ⟨rfl, hv.symm, rfl, rfl, nextPC_of_operand h s⟩

/-- Settles O16: an index is added in the width of a byte, so the address stays in page zero. -/
theorem zeroPageModes : Obligations.ZeroPageModes := by
  refine fun i s z => ⟨fun h => ?_, fun h => ?_, fun h => ?_⟩
  all_goals
    have hread := operandByte_of_operand h s
    rw [resolvedOf_of_operand h] at hread ⊢
  · exact ⟨encode_of_operand h, zext16_toNat z, rfl, hread, nextPC_of_operand h s⟩
  · exact ⟨encode_of_operand h, zext16_add_toNat z s.x, rfl, hread, nextPC_of_operand h s⟩
  · exact ⟨encode_of_operand h, zext16_add_toNat z s.y, rfl, hread, nextPC_of_operand h s,
      mnemonic_of_zeroPageY h⟩

/-- Settles O17: the indexed forms are the word's `indexed`, whose two laws they take over. -/
theorem absoluteModes : Obligations.AbsoluteModes := by
  refine fun i s w => ⟨fun h => ?_, fun h => ?_, fun h => ?_⟩
  all_goals
    have hbytes := encode_of_word_operand (congrArg operandBytes h)
    have hread := operandByte_of_operand h s
    rw [resolvedOf_of_operand h] at hread ⊢
  · exact ⟨hbytes, rfl, rfl, hread, nextPC_of_operand h s⟩
  · exact ⟨hbytes, indexed_ea_toNat w s.x, indexed_crossed_iff w s.x, hread,
      nextPC_of_operand h s⟩
  · exact ⟨hbytes, indexed_ea_toNat w s.y, indexed_crossed_iff w s.y, hread,
      nextPC_of_operand h s⟩

/-- Settles O18: INDIRECT_X indexes the pointer's address, INDIRECT_Y the pointer it reads. -/
theorem indirectIndexedModes : Obligations.IndirectIndexedModes := by
  refine fun i s z => ⟨fun h => ?_, fun h => ?_⟩
  all_goals
    have hread := operandByte_of_operand h s
    rw [resolvedOf_of_operand h] at hread ⊢
  · exact ⟨encode_of_operand h, s.readZP16_add_toNat z s.x, rfl, hread, nextPC_of_operand h s⟩
  · exact ⟨encode_of_operand h, indexed_ea_toNat _ s.y, indexed_crossed_iff _ s.y, hread,
      nextPC_of_operand h s⟩

/-- Settles O19: the target pairs the byte at the pointer with the one at the pointer's low byte
plus one, the high byte kept. -/
theorem absoluteIndirectMode : Obligations.AbsoluteIndirectMode := by
  intro i s w h
  rw [resolvedOf_of_operand h, ← word_hi_lo_add_one]
  exact ⟨encode_of_word_operand (congrArg operandBytes h), word_toNat _ _, rfl,
    nextPC_of_operand h s, mnemonic_of_absoluteIndirect h⟩

/-- Settles O20: the resolver adds the sign-extended offset to the next instruction's address. -/
theorem relativeMode : Obligations.RelativeMode := by
  intro i s r h
  rw [resolvedOf_relative h]
  refine ⟨encode_of_operand h, nextPC_of_operand h s, ?_, hi_bne_hi_iff _ _⟩
  rw [BitVec.toNat_add, sext16_toNat]

/-- Settles O21: both modes have no operand byte and resolve to the placeholder. -/
theorem noOperandModes : Obligations.NoOperandModes := by
  rintro i s (h | h)
  all_goals rw [resolvedOf_of_operand h, operandByte_of_operand h, h]
  · exact ⟨encode_of_operand h, rfl, rfl, nextPC_of_operand h s, fun _ => rfl⟩
  · exact ⟨encode_of_operand h, rfl, rfl, nextPC_of_operand h s, nofun⟩

end Sys2Proof.Machine
end

section
/-! SUPPORT. Every operation of the core has a next state, how runs and lists of host calls unfold
one operation at a time, and where an instruction leaves PC (41_dispatch.md R124 to R127, R133). -/

namespace Sys2Proof.Machine

open Sys2Proof

/-- An instruction is an empty slot's event or a listed effect and its charge; both have a next
state. -/
theorem exec_next (i : Instr) (s : State) : ∃ t, exec i s = .next t := by
  rw [exec_eq_execWith]
  rcases execWith_cases i with ⟨_, hrun⟩ | ⟨hi, _⟩
  · exact ⟨_, hrun defaultParams s⟩
  · obtain ⟨d, _, hrun⟩ := execWith_effect i s hi
    exact ⟨_, hrun defaultParams⟩

theorem step_next (s : State) : ∃ t, step s = .next t := exec_next (fetch s) s

@[simp] theorem hostRun_zero (s : State) : hostRun 0 s = .next s := rfl

/-- `run(n + 1)` goes on with `run(n)` after its first step (R125). -/
theorem hostRun_succ {s t : State} (h : step s = .next t) (n : Nat) :
    hostRun (n + 1) s = hostRun n t := by
  rw [hostRun, ← step_eq_stepWith, h]

theorem hostRun_one (s : State) : hostRun 1 s = step s := by
  obtain ⟨t, h⟩ := step_next s
  rw [hostRun_succ h, hostRun_zero, h]

theorem hostRun_next (n : Nat) (s : State) : ∃ t, hostRun n s = .next t := by
  induction n generalizing s with
  | zero => exact ⟨s, rfl⟩
  | succ n ih =>
    obtain ⟨t, h⟩ := step_next s
    rw [hostRun_succ h]
    exact ih t

/-- `run(m + n)` goes on with `run(n)` where `run(m)` ends. -/
theorem hostRun_add (m n : Nat) {s t : State} (h : hostRun m s = .next t) :
    hostRun (m + n) s = hostRun n t := by
  induction m generalizing s with
  | zero => cases h; rw [Nat.zero_add]
  | succ m ih =>
    obtain ⟨u, hu⟩ := step_next s
    rw [hostRun_succ hu] at h
    rw [Nat.succ_add, hostRun_succ hu, ih h]

theorem hostCall_next (c : HostCall) (s : State) : ∃ t, hostCall c s = .next t := by
  cases c with
  | step =>
    rw [hostCall, ← step_eq_stepWith]
    exact step_next s
  | run n => exact hostRun_next n s
  | reset | loadProgram | irq | nmi | setMemory => exact ⟨_, rfl⟩

theorem hostCalls_cons {c : HostCall} {s t : State} (h : hostCall c s = .next t)
    (rest : List HostCall) : hostCalls (c :: rest) s = hostCalls rest t := by
  rw [hostCalls, h]

theorem hostCalls_next (calls : List HostCall) (s : State) :
    ∃ t, hostCalls calls s = .next t := by
  induction calls generalizing s with
  | nil => exact ⟨s, rfl⟩
  | cons c rest ih =>
    obtain ⟨t, h⟩ := hostCall_next c s
    rw [hostCalls_cons h]
    exact ih t

/-- R126: the instructions whose effect writes PC. -/
abbrev pcWriters : List Mnemonic :=
  [.JMP, .JSR, .RTS, .BCC, .BCS, .BEQ, .BMI, .BNE, .BPL, .BVC, .BVS, .BRK, .RTI]

theorem Effect.pc_eq {i : Instr} {r : Resolved} {s : State} {d : State × Nat}
    (h : Effect i r s d) (hm : i.mnemonic ∉ pcWriters) : d.1.pc = s.pc := by
  cases h
  case jump hi | call hi | ret hi | brk hi | rti hi => simp [hi] at hm
  case branchTaken hi =>
    have hsub : branchMnemonics ⊆ pcWriters := by decide
    exact absurd (hsub hi) hm
  all_goals simp

/-- An empty slot is one byte long (R124). -/
theorem nextPC_of_unimplemented {i : Instr} (h : i.mnemonic = .UNIMPLEMENTED) (s : State) :
    nextPC i s = s.pc + 1#16 := by
  rw [i.mnemonic_eq_unimplemented_iff.mp h]
  rfl

/-- A step decodes the bytes at PC, and what `decode` answers on them is that instruction. -/
theorem fetch_of_decode {s : State} {i : Instr} {rest : List Byte}
    (h : decode (fetchBytes s) = .ok i rest) : fetch s = i :=
  (decode_cons_eq_ok_iff.mp h).1

end Sys2Proof.Machine
end

section
/-! The settled statements of the dispatch's family (41_dispatch.md). -/

namespace Sys2Proof.Machine

open Sys2Proof

/-- Settles O7: no instruction faults or is refused, so no step, run or list of host calls does. -/
theorem everyStepHasNext : Obligations.EveryStepHasNext :=
  ⟨step_next, exec_next, hostCalls_next⟩

/-- Settles O52: by induction on `m`, `run(m + n)` goes on where `run(m)` ends. -/
theorem runIsSteps : Obligations.RunIsSteps := by
  intro m n s
  obtain ⟨t, ht⟩ := hostRun_next m s
  obtain ⟨u, hu⟩ := hostRun_next n t
  exact ⟨hostRun_zero s, hostRun_one s, t, u, ht, hu, (hostRun_add m n ht).trans hu⟩

/-- Settles O56: an effect outside the list starts with PC past the instruction and leaves it
there. -/
theorem programCounterFrame : Obligations.ProgramCounterFrame := by
  intro i s t h hm
  rcases exec_cases h with ⟨hi, rfl⟩ | ⟨_, d, hd, rfl⟩
  · exact (nextPC_of_unimplemented hi s).symm
  · exact hd.pc_eq hm

/-- Settles O6: a step executes the fetched instruction, and that is the one decoded. -/
theorem stepRunsDecoded : Obligations.StepRunsDecoded := by
  intro s i rest h
  rw [step_eq, fetch_of_decode h]

/-- Settles O48: the event of an empty slot, its charge a sum at the default width. -/
theorem unimplementedResult : Obligations.UnimplementedResult := by
  intro op s
  rw [exec_eq_execWith]
  exact congrArg Host.Outcome.next (State.charge_default _ unimplementedCycles)

end Sys2Proof.Machine
end

section
/-! SUPPORT. From the state an instruction ends in to the shape its statement has: a register with its
Z and N written (10_state.md R26), or one byte stored (20_memory.md R54), on a state that is otherwise
past the instruction (41_dispatch.md R122). -/

namespace Sys2Proof.Machine

open Sys2Proof Sys2Proof.Claims

/-- `setZN` on a state with the status byte of `s` leaves the flags of R26 over `s`. -/
theorem State.flag_setZN_eq_znFlags {s t : State} (h : t.sr = s.sr) (v : Byte) (f : Flag) :
    (t.setZN v).flag f = znFlags s v f := by
  have hflags : t.flag = s.flag := funext fun g => State.flag_of_sr t s h g
  rw [(setZNWritesZeroAndNegative t v).1 f]
  simp only [znFlags, hflags]

theorem setsA_of_execWith {m : Mnemonic} {result : Instr → State → Byte}
    (h : ∀ i s, i.mnemonic = m → execWith defaultParams i s =
      .next (State.setZN { passed i 0 s with a := result i s } (result i s))) :
    setsA m result := fun i s hm =>
  ⟨_, (exec_eq_execWith i s).trans (h i s hm), rfl, rfl, State.flag_setZN_eq_znFlags rfl _⟩

theorem setsX_of_execWith {m : Mnemonic} {result : Instr → State → Byte}
    (h : ∀ i s, i.mnemonic = m → execWith defaultParams i s =
      .next (State.setZN { passed i 0 s with x := result i s } (result i s))) :
    setsX m result := fun i s hm =>
  ⟨_, (exec_eq_execWith i s).trans (h i s hm), rfl, rfl, State.flag_setZN_eq_znFlags rfl _⟩

theorem setsY_of_execWith {m : Mnemonic} {result : Instr → State → Byte}
    (h : ∀ i s, i.mnemonic = m → execWith defaultParams i s =
      .next (State.setZN { passed i 0 s with y := result i s } (result i s))) :
    setsY m result := fun i s hm =>
  ⟨_, (exec_eq_execWith i s).trans (h i s hm), rfl, rfl, State.flag_setZN_eq_znFlags rfl _⟩

theorem stores_of_execWith {m : Mnemonic} {value : State → Byte}
    (h : ∀ i s, i.mnemonic = m → execWith defaultParams i s =
      .next ((passed i 0 s).writeByte (resolvedOf i s).ea (value s))) :
    stores m value := fun i s hm =>
  ⟨_, (exec_eq_execWith i s).trans (h i s hm), rfl,
    fun k => State.readByte_writeByte (passed i 0 s) _ k _⟩

end Sys2Proof.Machine
end

section
/-! The settled statements of the loads, stores and transfers (42_load_store_transfer.md). -/

namespace Sys2Proof.Machine

open Sys2Proof Sys2Proof.Claims

/-- Settles O22: a load reads its operand byte into the register and sets Z and N from it. -/
theorem loadResults : Obligations.LoadResults := by
  refine ⟨setsA_of_execWith fun i s hm => ?_, setsX_of_execWith fun i s hm => ?_,
    setsY_of_execWith fun i s hm => ?_⟩
  all_goals
    rw [execWith, hm]
    exact performRead_eq _ i _ s

/-- Settles O23: a store's effect is one byte write and leaves SR alone. -/
theorem storeResults : Obligations.StoreResults := by
  refine ⟨stores_of_execWith fun i s hm => ?_, stores_of_execWith fun i s hm => ?_,
    stores_of_execWith fun i s hm => ?_⟩
  all_goals
    rw [execWith, hm]
    exact performPlain_eq _ i _ s

/-- Settles O24: five transfers set Z and N from the byte they copy; TXS copies X to SP and no
more. -/
theorem transferResults : Obligations.TransferResults := by
  refine ⟨setsX_of_execWith fun i s hm => ?_, setsY_of_execWith fun i s hm => ?_,
    setsA_of_execWith fun i s hm => ?_, setsA_of_execWith fun i s hm => ?_,
    setsX_of_execWith fun i s hm => ?_,
    performImplied_eq defaultParams .txs fun t => { t with sp := t.x }⟩
  all_goals
    rw [execWith, hm]
    exact performImplied_eq _ i _ s

end Sys2Proof.Machine
end

section
/-! SUPPORT. The arithmetic of the ALU as numbers (43_arith_logic.md R171 to R174, R184), and two
facts of its operations: `sbc` is `adc` of the complement, and `adc` has nothing to do with D (R170). -/

namespace Sys2Proof.Machine

open Sys2Proof

theorem beq_zero_eq_decide (v : Byte) : (v == 0#8) = decide (v.toNat = 0) := by
  rw [Bool.eq_iff_iff, beq_iff_eq, decide_eq_true_iff, ← BitVec.toNat_inj]
  rfl

/-- Bit 7 of a byte as a number. -/
theorem getLsbD_seven (m : Byte) : m.getLsbD 7 = decide (128 ≤ m.toNat) :=
  (BitVec.msb_eq_getLsbD_last m).symm.trans (BitVec.msb_eq_decide m)

/-- Bit 6 of a byte as a number. -/
theorem getLsbD_six (m : Byte) : m.getLsbD 6 = decide (64 ≤ m.toNat % 128) := by
  rw [BitVec.getLsbD, Nat.testBit_eq_decide_div_mod_eq, decide_eq_decide]
  omega

/-- Bit 7 of the difference mod 256 (R173). -/
theorem sub_msb (reg v : Byte) :
    (reg - v).msb = decide (128 ≤ (reg.toNat + 256 - v.toNat) % 256) := by
  have hv := v.isLt
  rw [BitVec.msb_eq_decide, BitVec.toNat_sub, decide_eq_decide]
  omega

/-- The one's complement in two's-complement values. -/
theorem byte_toInt_not (v : Byte) : (~~~v).toInt = -v.toInt - 1 := by
  have hv := v.isLt
  rw [BitVec.toInt_eq_toNat_cond, BitVec.toInt_eq_toNat_cond, BitVec.toNat_not]
  split <;> split <;> omega

theorem bit_le_one (c : Bool) : bit c ≤ 1 := by cases c <;> decide

/-- R184: two bytes and a carry share a sign that their sum mod 256 does not exactly when the sum of
their two's-complement values leaves the range of a byte. -/
theorem signed_overflow_iff (a v : Byte) (c : Bool) :
    (a.msb = v.msb ∧ a.msb ≠ (BitVec.ofNat 8 (a.toNat + v.toNat + bit c)).msb) ↔
      a.toInt + v.toInt + (bit c : Int) < -128 ∨ 127 < a.toInt + v.toInt + (bit c : Int) := by
  have ha := a.isLt
  have hv := v.isLt
  have hc := bit_le_one c
  simp only [BitVec.msb_eq_decide, BitVec.toInt_eq_toNat_cond, BitVec.toNat_ofNat, ne_eq,
    decide_eq_decide]
  split <;> split <;> omega

/-- V after `adc` (R184). -/
theorem State.adc_overflow_iff (s : State) (v : Byte) :
    (s.adc v).flag .V = true ↔
      s.a.toInt + v.toInt + (bit (s.flag .C) : Int) < -128 ∨
      127 < s.a.toInt + v.toInt + (bit (s.flag .C) : Int) := by
  rw [State.flag_adc, decide_eq_true_iff, State.adc_a]
  exact signed_overflow_iff s.a v (s.flag .C)

/-- R172: SBC is ADC of the one's complement; V agrees because the complement's sign is the other
one. -/
theorem State.sbc_eq_adc_not (s : State) (v : Byte) : s.sbc v = s.adc (~~~v) := by
  have hsign : ~~~(s.a ^^^ ~~~v) = s.a ^^^ v := by rw [BitVec.not_xor_right, BitVec.not_not]
  simp only [State.sbc, State.adc, hsign, BitVec.and_comm (s.a ^^^ v)]

/-- Eight flags are the whole status byte (10_state.md R24). -/
theorem eq_of_getFlag_eq {x y : Byte} (h : ∀ f, getFlag f x = getFlag f y) : x = y := by
  refine BitVec.eq_of_getLsbD_eq fun k hk => ?_
  have hflag : ∃ f, flagBit f = k := by
    interval_cases k
    exacts [⟨.C, rfl⟩, ⟨.Z, rfl⟩, ⟨.I, rfl⟩, ⟨.D, rfl⟩, ⟨.B, rfl⟩, ⟨.U, rfl⟩, ⟨.V, rfl⟩, ⟨.N, rfl⟩]
  obtain ⟨f, rfl⟩ := hflag
  exact h f

/-- States that agree but for A and SR are equal when A and every flag are. -/
theorem State.eq_of_flag_eq {s t : State} (hframe : { s with a := t.a, sr := t.sr } = t)
    (ha : s.a = t.a) (hflag : ∀ f, s.flag f = t.flag f) : s = t := by
  rw [← hframe, ← ha, ← eq_of_getFlag_eq hflag]

/-- R170: `adc` neither reads nor writes D. -/
theorem State.adc_setFlag_decimal (s : State) (b : Bool) (v : Byte) :
    (s.setFlag .D b).adc v = (s.adc v).setFlag .D b := by
  have ha : ((s.setFlag .D b).adc v).a = (s.adc v).a := by simp
  refine State.eq_of_flag_eq rfl ha fun f => ?_
  rw [State.flag_setFlag, State.flag_adc, State.flag_adc, ha]
  cases f
  case V => rfl
  all_goals simp

/-- The operand byte depends on no flag. -/
theorem operandByte_setFlag (i : Instr) (s : State) (f : Flag) (b : Bool) :
    operandByte i (s.setFlag f b) = operandByte i s := rfl

end Sys2Proof.Machine
end

section
/-! SUPPORT. Each instruction of the family as one operation on the state past the instruction
(41_dispatch.md R122). -/

namespace Sys2Proof.Machine

open Sys2Proof Sys2Proof.Claims

section
variable {i : Instr}

/-- R175: ADC is `adc` of the operand byte, past the instruction. -/
theorem exec_of_adc (hm : i.mnemonic = .ADC) (s : State) :
    exec i s = .next ((passed i 0 s).adc (operandByte i s)) := by
  rw [exec_eq_execWith, execWith, hm]
  exact performRead_eq _ i _ s

/-- R176: SBC is `sbc` of the operand byte, past the instruction. -/
theorem exec_of_sbc (hm : i.mnemonic = .SBC) (s : State) :
    exec i s = .next ((passed i 0 s).sbc (operandByte i s)) := by
  rw [exec_eq_execWith, execWith, hm]
  exact performRead_eq _ i _ s

/-- R183: BIT is `bitTest` of the operand byte, past the instruction. -/
theorem exec_of_bit (hm : i.mnemonic = .BIT) (s : State) :
    exec i s = .next ((passed i 0 s).bitTest (operandByte i s)) := by
  rw [exec_eq_execWith, execWith, hm]
  exact performRead_eq _ i _ s

end

theorem compares_of_execWith {m : Mnemonic} {reg : State → Byte}
    (h : ∀ i s, i.mnemonic = m → execWith defaultParams i s =
      .next ((passed i 0 s).compare (reg s) (operandByte i s))) :
    compares m reg := by
  refine fun i s hm => ⟨_, (exec_eq_execWith i s).trans (h i s hm), rfl, fun f => ?_⟩
  rw [State.flag_compare]
  cases f
  case N => exact sub_msb _ _
  all_goals rfl

end Sys2Proof.Machine
end

section
/-! The settled statements of arithmetic and logic (43_arith_logic.md). -/

namespace Sys2Proof.Machine

open Sys2Proof

/-- Settles O25: the model's flags of the sum are those of the rule, read as numbers. -/
theorem adcResult : Obligations.AdcResult := by
  refine fun i s hm => ⟨_, exec_of_adc hm s, rfl, BitVec.toNat_ofNat _ _, fun f => ?_⟩
  rw [State.flag_adc]
  cases f
  case Z => exact beq_zero_eq_decide _
  case N => exact BitVec.msb_eq_decide _
  all_goals rfl

/-- Settles O26: the complement the model adds is `255 - M`. -/
theorem sbcResult : Obligations.SbcResult := by
  intro i s hm
  have hnot : (~~~operandByte i s).toNat = 255 - (operandByte i s).toNat := BitVec.toNat_not
  rw [← hnot]
  refine ⟨_, exec_of_sbc hm s, rfl, BitVec.toNat_ofNat _ _, fun f => ?_⟩
  rw [State.flag_sbc]
  cases f
  case Z => exact beq_zero_eq_decide _
  case N => exact BitVec.msb_eq_decide _
  all_goals rfl

/-- Settles O27: for ADC the fact about bytes; SBC adds the complement, whose value is `-v - 1`. -/
theorem overflowIsSignedRange : Obligations.OverflowIsSignedRange := by
  refine fun s v => ⟨s.adc_overflow_iff v, ?_⟩
  rw [State.sbc_eq_adc_not, State.adc_overflow_iff, byte_toInt_not]
  omega

/-- Settles O28: PC, CYC and the operand byte do not depend on D, `adc` commutes with its write, and
`sbc` is an `adc`. -/
theorem decimalFlagIsInert : Obligations.DecimalFlagIsInert := by
  rintro i s b (hm | hm)
  · refine ⟨_, exec_of_adc hm s, (exec_of_adc hm _).trans ?_⟩
    rw [operandByte_setFlag, ← State.adc_setFlag_decimal]
    rfl
  · refine ⟨_, exec_of_sbc hm s, (exec_of_sbc hm _).trans ?_⟩
    rw [operandByte_setFlag, State.sbc_eq_adc_not, State.sbc_eq_adc_not,
      ← State.adc_setFlag_decimal]
    rfl

/-- Settles O29: each effect puts its result into A and sets Z and N from it. -/
theorem logicResults : Obligations.LogicResults := by
  refine ⟨setsA_of_execWith fun i s hm => ?_, setsA_of_execWith fun i s hm => ?_,
    setsA_of_execWith fun i s hm => ?_⟩
  all_goals
    rw [execWith, hm]
    exact performRead_eq _ i _ s

/-- Settles O30: the three instructions are one comparison, each of its own register. -/
theorem compareResults : Obligations.CompareResults := by
  refine ⟨compares_of_execWith fun i s hm => ?_, compares_of_execWith fun i s hm => ?_,
    compares_of_execWith fun i s hm => ?_⟩
  all_goals
    rw [execWith, hm]
    exact performRead_eq _ i _ s

/-- Settles O31: the bits of the operand byte, read as numbers. -/
theorem bitTestResult : Obligations.BitTestResult := by
  refine fun i s hm => ⟨_, exec_of_bit hm s, rfl, fun f => ?_⟩
  rw [State.flag_bitTest]
  cases f
  case N => exact getLsbD_seven _
  case V => exact getLsbD_six _
  all_goals rfl

end Sys2Proof.Machine
end

section
/-! SUPPORT. The operands and results of the shifts, increments and decrements as numbers
(44_shift_incdec.md R200 to R210). -/

namespace Sys2Proof.Machine

open Sys2Proof

/-- Bit 0 of a byte as a number. -/
theorem getLsbD_zero (m : Byte) : m.getLsbD 0 = decide (m.toNat % 2 = 1) :=
  Nat.testBit_zero m.toNat

theorem add_one_eq_ofNat8 (m : Byte) : m + 1#8 = BitVec.ofNat 8 ((m.toNat + 1) % 256) := by
  rw [ofNat8_mask, BitVec.ofNat_add, BitVec.ofNat_toNat, BitVec.setWidth_eq]

/-- One less mod 256 is 255 more. -/
theorem sub_one_eq_ofNat8 (m : Byte) : m - 1#8 = BitVec.ofNat 8 ((m.toNat + 255) % 256) := by
  rw [ofNat8_mask, BitVec.ofNat_add, BitVec.ofNat_toNat, BitVec.setWidth_eq]
  exact BitVec.sub_eq_add_neg m 1#8

/-- Only instructions that read and do not write memory have the mode IMMEDIATE (R101). -/
theorem mnemonic_of_immediate {i : Instr} {v : Byte} (h : i.operand = .immediate v) :
    i.mnemonic ∈ [.LDA, .LDX, .LDY, .ADC, .SBC, .AND, .ORA, .EOR, .CMP, .CPX, .CPY] := by
  cases i
  case ldaImm | ldxImm | ldyImm | adcImm | sbcImm | andImm | oraImm | eorImm | cmpImm | cpxImm |
      cpyImm => simp [Instr.mnemonic, rowOf]
  all_goals cases h

/-- R111: the operand byte is the byte at the effective address unless it is A or stands in the
instruction. -/
theorem operandByte_eq_readByte {i : Instr} (hacc : i.operand ≠ .accumulator)
    (himm : ∀ v, i.operand ≠ .immediate v) (s : State) :
    operandByte i s = s.readByte (resolvedOf i s).ea := by
  rw [operandByte]
  cases ho : i.operand
  case accumulator => exact absurd ho hacc
  case immediate v => exact absurd ho (himm v)
  all_goals rfl

theorem storeOperand_of_not_accumulator {o : Operand} (hacc : o ≠ .accumulator) (ea : Word)
    (v : Byte) (s : State) : storeOperand o ea v s = s.writeByte ea v :=
  ((storeOperand_cases o ea v s).resolve_left fun h => hacc h.1).2

/-- A shift or rotate reads A or the byte at the effective address (R200). -/
theorem operandByte_of_shift {i : Instr} (hm : i.mnemonic ∈ [.ASL, .LSR, .ROL, .ROR])
    (hacc : i.operand ≠ .accumulator) (s : State) :
    operandByte i s = s.readByte (resolvedOf i s).ea := by
  refine operandByte_eq_readByte hacc (fun v himm => ?_) s
  have hread := mnemonic_of_immediate himm
  grind

end Sys2Proof.Machine
end

section
/-! SUPPORT. From the shared operations of the family to the shape of its statements. -/

namespace Sys2Proof.Machine

open Sys2Proof Sys2Proof.Claims

theorem updatesMemory_of_execWith {m : Mnemonic} {f : Byte → Byte}
    (h : ∀ i s, i.mnemonic = m →
      execWith defaultParams i s = runMemoryUpdate defaultParams f i s) :
    updatesMemory m f := fun i s hm =>
  ⟨_, (exec_eq_execWith i s).trans ((h i s hm).trans (runMemoryUpdate_eq _ f i s)), rfl,
    fun k => State.readByte_writeByte s _ k _,
    State.flag_setZN_eq_znFlags (s := s) (t := s.writeByte _ _) rfl _⟩

/-- The statement of a shift or rotate whose result and bit shifted out are `result` and `carry` as
numbers. -/
theorem shifts_of_execWith {m : Mnemonic} {k : Shift} {result : Nat → Bool → Nat}
    {carry : Nat → Bool} (hshift : m ∈ [.ASL, .LSR, .ROL, .ROR])
    (hresult : ∀ v c, shiftResult k v c = BitVec.ofNat 8 (result v.toNat c))
    (hcarry : ∀ v, shiftCarry k v = carry v.toNat)
    (h : ∀ i s, i.mnemonic = m → execWith defaultParams i s = runShift defaultParams k i s) :
    shifts m result carry := by
  intro i s hm
  simp only [← hresult, ← hcarry]
  refine ⟨_, (exec_eq_execWith i s).trans ((h i s hm).trans (runShift_eq _ k i s)),
    fun f => ?_, fun hacc => ?_, fun hacc => ?_⟩
  · rw [State.flag_charge, (setZNWritesZeroAndNegative _ _).1 f]
    cases f
    case Z | N => rfl
    all_goals simp [znFlags, getFlag_sr]
  · have hread : operandByte i s = s.a := by rw [operandByte, hacc, loadOperand]
    rw [hread, hacc, storeOperand]
    exact ⟨rfl, rfl⟩
  · have hread := operandByte_of_shift (hm ▸ hshift) hacc s
    rw [storeOperand_of_not_accumulator hacc, hread]
    exact ⟨rfl, fun j => State.readByte_writeByte s _ j _⟩

end Sys2Proof.Machine
end

section
/-! The settled statements of the shifts, increments and decrements (44_shift_incdec.md). -/

namespace Sys2Proof.Machine

open Sys2Proof

/-- Settles O32: the four are one operation, and its results and bits shifted out are those of the
rules, read as numbers. -/
theorem shiftResults : Obligations.ShiftResults := by
  refine ⟨shifts_of_execWith (k := .asl) (by decide) (fun _ _ => (ofNat8_mask _).symm) getLsbD_seven
      fun i s hm => ?_,
    shifts_of_execWith (k := .lsr) (by decide) (fun _ _ => rfl) getLsbD_zero fun i s hm => ?_,
    shifts_of_execWith (k := .rol) (by decide) (fun _ _ => (ofNat8_mask _).symm) getLsbD_seven
      fun i s hm => ?_,
    shifts_of_execWith (k := .ror) (by decide) (fun _ _ => rfl) getLsbD_zero fun i s hm => ?_⟩
  all_goals
    rw [execWith, hm]
    rfl

/-- Settles O33: both are one memory update, adding 1 or 255 mod 256. -/
theorem memoryStepResults : Obligations.MemoryStepResults := by
  simp only [Obligations.MemoryStepResults, ← add_one_eq_ofNat8, ← sub_one_eq_ofNat8]
  refine ⟨updatesMemory_of_execWith fun i s hm => ?_, updatesMemory_of_execWith fun i s hm => ?_⟩
  all_goals
    rw [execWith, hm]
    rfl

/-- Settles O34: each puts its register plus 1 or 255 mod 256 back and sets Z and N from it. -/
theorem indexStepResults : Obligations.IndexStepResults := by
  simp only [Obligations.IndexStepResults, ← add_one_eq_ofNat8, ← sub_one_eq_ofNat8]
  refine ⟨setsX_of_execWith fun i s hm => ?_, setsY_of_execWith fun i s hm => ?_,
    setsX_of_execWith fun i s hm => ?_, setsY_of_execWith fun i s hm => ?_⟩
  all_goals
    rw [execWith, hm]
    exact performImplied_eq _ i _ s

end Sys2Proof.Machine
end

section
/-! SUPPORT. The stack below a popped word, and an interrupt's return after its entry
(20_memory.md R59, R61, R64; 47_interrupt_instr.md R292, R293). -/

namespace Sys2Proof.Machine

open Sys2Proof

theorem add_one_add_one (sp : Byte) : sp + 1#8 + 1#8 = sp + 2#8 := BitVec.add_assoc sp 1#8 1#8

theorem State.popped_popped (s : State) : s.popped.popped = { s with sp := s.sp + 2#8 } := by
  rw [← add_one_add_one]
  rfl

/-- The cells of a popped word: the low byte in the lower one (R61). -/
theorem State.popWord_eq (s : State) :
    s.popWord = word (s.readByte (stackAddr (s.sp + 2#8))) (s.readByte (stackAddr (s.sp + 1#8))) := by
  rw [← add_one_add_one]
  rfl

/-- The cell at SP is not one of a word's that is popped above it, whatever a push left there. -/
theorem State.popWord_popped_push8 (s : State) (v : Byte) :
    (s.push8 v).popped.popWord = s.popWord := by
  have hne {k : Byte} (hk : k ≠ 0#8) : stackAddr (s.sp + k) ≠ stackAddr s.sp := by simpa using hk
  rw [State.popped_push8, State.popWord_eq, State.popWord_eq, State.writeByte_sp,
    State.readByte_writeByte, State.readByte_writeByte, if_neg (hne (by decide)),
    if_neg (hne (by decide))]

/-- What a pop returns depends on memory and SP alone. -/
theorem State.popByte_of_mem_sp {s t : State} (hmem : s.mem = t.mem) (hsp : s.sp = t.sp) :
    s.popByte = t.popByte := by
  rw [State.popByte, State.popByte, State.readByte_of_mem s t hmem, hsp]

theorem State.popWord_of_mem_sp {s t : State} (hmem : s.mem = t.mem) (hsp : s.sp = t.sp) :
    s.popWord = t.popWord := by
  simp only [State.popWord_eq, State.readByte_of_mem s t hmem, hsp]

@[simp] theorem State.popByte_charge (s : State) (params : Params) (n : Nat) :
    (s.charge params n).popByte = s.popByte := State.popByte_of_mem_sp rfl rfl

@[simp] theorem State.popWord_popped_charge (s : State) (params : Params) (n : Nat) :
    (s.charge params n).popped.popWord = s.popped.popWord := State.popWord_of_mem_sp rfl rfl

/-- The first byte popped after an interrupt entry is the status pushed. -/
theorem State.popByte_enterInterrupt (s : State) (returnPC : Word) (pushed : Byte) (vector : Word) :
    (s.enterInterrupt returnPC pushed vector).popByte = pushed := by
  have hmem := State.enterInterrupt_mem s returnPC pushed vector
  have hsp := State.enterInterrupt_sp s returnPC pushed vector
  rw [State.popByte_of_mem_sp (t := (s.push16 returnPC).push8 pushed) hmem hsp,
    State.popByte_push8]

/-- The word popped next is the return address. -/
theorem State.popWord_popped_enterInterrupt (s : State) (returnPC : Word) (pushed : Byte)
    (vector : Word) : (s.enterInterrupt returnPC pushed vector).popped.popWord = returnPC := by
  have hsp : (s.enterInterrupt returnPC pushed vector).popped.sp =
      ((s.push16 returnPC).push8 pushed).popped.sp :=
    congrArg (· + 1#8) (State.enterInterrupt_sp s returnPC pushed vector)
  rw [State.popWord_of_mem_sp (State.enterInterrupt_mem s returnPC pushed vector) hsp,
    State.popWord_popped_push8, State.popWord_push16]

/-- The status that BRK pushes has Break and Unused set and the other flags of SR (R290). -/
theorem getFlag_statusBreakSet (f : Flag) (sr : Byte) :
    getFlag f (statusBreakSet sr) = if f = .B ∨ f = .U then true else getFlag f sr := by
  have hsplit : statusBreakSet sr = putFlag .B true sr ||| 0x20#8 :=
    (BitVec.or_assoc sr 0x10#8 0x20#8).symm
  rw [hsplit, getFlag_or_unused, getFlag_putFlag]
  grind

end Sys2Proof.Machine
end

section
/-! SUPPORT. What JSR, RTS, BRK and RTI do, each as one operation of the stack on the state past the
instruction (41_dispatch.md R122), and a branch's statement from its shared operation. -/

namespace Sys2Proof.Machine

open Sys2Proof Sys2Proof.Claims

/-- R232: JSR pushes the address of its last byte, which is one below the next instruction's. -/
theorem exec_jsr (w : Word) (s : State) :
    exec (.jsr w) s =
      .next (State.push16 { passed (.jsr w) 0 s with pc := w } (s.pc + 2#16)) := by
  have hlast : nextPC (.jsr w) s - 1#16 = s.pc + 2#16 := by
    show s.pc + 3#16 - 1#16 = s.pc + 2#16
    bv_omega
  rw [← hlast]
  rfl

theorem exec_rts (s : State) :
    exec .rts s = .next { (passed .rts 0 s).popped.popped with pc := s.popWord + 1#16 } := rfl

/-- R290: BRK pushes the address after its signature byte. -/
theorem exec_brk (s : State) :
    exec .brk s = .next
      ((State.enterInterrupt { s with pc := nextPC .brk s } (s.pc + 2#16) (statusBreakSet s.sr)
        irqVector).charge defaultParams (baseCycles 0x00#8)) := by
  have hreturn : nextPC .brk s + 1#16 = s.pc + 2#16 := BitVec.add_assoc s.pc 1#16 1#16
  rw [← hreturn]
  rfl

/-- R233: an RTS at any PC resumes after the address on the stack. -/
theorem exec_rts_at (p : Word) (t : State) :
    ∃ u, exec .rts { t with pc := p } = .next u ∧ u.pc = t.popWord + 1#16 ∧
      u.sp = t.sp + 1#8 + 1#8 :=
  ⟨_, exec_rts _, rfl, rfl⟩

/-- R293: an RTI at any PC restores the status and the address on the stack. -/
theorem exec_rti_at (p : Word) (t : State) :
    ∃ u, exec .rti { t with pc := p } = .next u ∧ u.pc = t.popped.popWord ∧
      u.sp = t.sp + 1#8 + 1#8 + 1#8 ∧
      ∀ f, u.flag f = if f = .U then true else getFlag f t.popByte :=
  ⟨_, rfl, rfl, rfl, State.flag_returnFromInterrupt t⟩

/-- R230: a branch whose test does not read PC, so that it holds past the instruction when it holds
at it. -/
theorem branches_of_execWith {m : Mnemonic} {taken : State → Bool}
    (hpc : ∀ s p, taken { s with pc := p } = taken s)
    (h : ∀ i s, i.mnemonic = m →
      execWith defaultParams i s = runBranch defaultParams taken i s) :
    branches m taken := by
  intro i s hm
  rw [exec_eq_execWith, h i s hm]
  rcases runBranch_cases defaultParams taken i s with ⟨htaken, hrun⟩ | ⟨htaken, hrun⟩
  all_goals
    rw [hpc] at htaken
    rw [hrun, htaken]
    rfl

end Sys2Proof.Machine
end

section
/-! The settled statements of jumps, subroutines and branches (45_control.md). -/

namespace Sys2Proof.Machine

open Sys2Proof Sys2Proof.Claims

/-- Settles O35: both modes are one operation, and its effect writes PC alone. -/
theorem jumpResult : Obligations.JumpResult := by
  intro i s hm
  rw [exec_eq_execWith, execWith, hm]
  exact performPlain_eq _ i _ s

/-- Settles O36: on the state past the instruction, with PC the operand, a word is pushed. -/
theorem subroutineCallResult : Obligations.SubroutineCallResult := by
  intro w s
  obtain ⟨-, -, hcells, hframe⟩ :=
    pushWordThenPopWord { passed (.jsr w) 0 s with pc := w } (s.pc + 2#16)
  exact ⟨_, exec_jsr w s, hframe, sub_one_sub_one s.sp, hcells⟩

/-- Settles O37: the pop of a word reads the two cells above SP. -/
theorem subroutineReturnResult : Obligations.SubroutineReturnResult := by
  intro s
  rw [exec_rts, State.popped_popped, State.popWord_eq]
  rfl

/-- Settles O38: the eight are one operation, each with the test of its flag. -/
theorem branchResults : Obligations.BranchResults := by
  refine ⟨?_, ?_, ?_, ?_, ?_, ?_, ?_, ?_⟩
  all_goals
    refine branches_of_execWith (fun _ _ => rfl) fun i s hm => ?_
    rw [execWith, hm]
    rfl

/-- Settles O45: a return pops what its entry pushed, and PC is not among what it reads. -/
theorem returnsResume : Obligations.ReturnsResume := by
  refine ⟨fun w p s t h => ?_, fun p s t h => ?_⟩
  · obtain ⟨u, hrun, hpc, hsp⟩ := exec_rts_at p t
    cases h.symm.trans (exec_jsr w s)
    rw [State.popWord_push16, BitVec.add_assoc] at hpc
    rw [State.push16_sp, BitVec.sub_add_cancel, BitVec.sub_add_cancel] at hsp
    exact ⟨u, hrun, hpc, hsp⟩
  · obtain ⟨u, hrun, hpc, hsp, hflag⟩ := exec_rti_at p t
    cases h.symm.trans (exec_brk s)
    rw [State.popWord_popped_charge, State.popWord_popped_enterInterrupt] at hpc
    rw [State.charge_sp, State.enterInterrupt_sp, BitVec.sub_add_cancel, BitVec.sub_add_cancel,
      BitVec.sub_add_cancel] at hsp
    refine ⟨u, hrun, hpc, hsp, fun f => ?_⟩
    rw [hflag, State.popByte_charge, State.popByte_enterInterrupt, getFlag_statusBreakSet,
      getFlag_sr]
    grind

end Sys2Proof.Machine
end

section
/-! SUPPORT. What the stack and flag instructions do, each as one operation on the state past the
instruction (41_dispatch.md R122), and the statements of a push and of a flag write from it. -/

namespace Sys2Proof.Machine

open Sys2Proof Sys2Proof.Claims

/-- R261: PHA is `push8` of A, past the instruction. -/
theorem exec_pha (s : State) : exec .pha s = .next ((passed .pha 0 s).push8 s.a) := rfl

/-- R262: PHP is `push8` of SR with Break and Unused set. -/
theorem exec_php (s : State) :
    exec .php s = .next ((passed .php 0 s).push8 (statusBreakSet s.sr)) := rfl

/-- R263: PLA puts the byte popped into A and sets Z and N from it. -/
theorem exec_pla (s : State) :
    exec .pla s = .next
      (State.setZN { (passed .pla 0 s).popped with a := s.popByte } s.popByte) := rfl

/-- R264: PLP writes the byte popped to all of SR. -/
theorem exec_plp (s : State) :
    exec .plp s = .next ((passed .plp 0 s).popped.writeStatus s.popByte) := rfl

/-- R58: an instruction that pushes a byte changes the cell at SP, SP, PC and CYC. -/
theorem pushed_of_exec {i : Instr} {s : State} {v : Byte}
    (h : exec i s = .next ((passed i 0 s).push8 v)) :
    ∃ t, exec i s = .next t ∧ { t with mem := s.mem, sp := s.sp } = passed i 0 s ∧
      t.sp = s.sp - 1#8 ∧ storedAt s t (0x0100#16 + zext16 s.sp) v :=
  ⟨_, h, rfl, State.push8_sp _ _, State.readByte_push8 (passed i 0 s) v⟩

/-- R25: an IMPLIED instruction whose effect writes one flag changes that flag, PC and CYC. -/
theorem writesFlag_of_execWith {i : Instr} {f : Flag} {b : Bool}
    (h : ∀ s, execWith defaultParams i s =
      performImplied defaultParams i (fun t => t.setFlag f b) s) :
    writesFlag i f b := fun s =>
  ⟨_, (exec_eq_execWith i s).trans ((h s).trans (performImplied_eq _ i _ s)), rfl,
    fun g => State.flag_setFlag (passed i 0 s) f g b⟩

end Sys2Proof.Machine
end

section
/-! The settled statements of the stack, flag and no-operation instructions
(46_stack_flags_misc.md). -/

namespace Sys2Proof.Machine

open Sys2Proof Sys2Proof.Claims

/-- Settles O39: both are one push, of A and of SR with Break and Unused set. -/
theorem pushResults : Obligations.PushResults := fun s =>
  ⟨pushed_of_exec (exec_pha s), pushed_of_exec (exec_php s)⟩

/-- Settles O40: both pop one byte; PLA sets Z and N from it, PLP makes it SR with Unused set. -/
theorem pullResults : Obligations.PullResults := fun s =>
  ⟨⟨_, exec_pla s, rfl, rfl, rfl, State.flag_setZN_eq_znFlags rfl _⟩,
    ⟨_, exec_plp s, rfl, rfl, State.writeStatus_sr _ _⟩⟩

/-- Settles O41: the seven are one flag write, each of its own flag and value. -/
theorem flagInstructionResults : Obligations.FlagInstructionResults := by
  refine ⟨?_, ?_, ?_, ?_, ?_, ?_, ?_⟩
  all_goals exact writesFlag_of_execWith fun _ => rfl

/-- Settles O42: the effect is the identity, and an IMPLIED instruction pays no page penalty. -/
theorem nopResult : Obligations.NopResult := performImplied_eq defaultParams .nop fun t => t

end Sys2Proof.Machine
end

section
/-! SUPPORT. An interrupt entry's frame from the upper cell down, as the statements of BRK, irq() and
nmi() give it, and the return as one equation (47_interrupt_instr.md R290, R292, R293). -/

namespace Sys2Proof.Machine

open Sys2Proof Sys2Proof.Claims

/-- Memory after an interrupt entry, from the upper cell down: the three cells differ (R292). -/
theorem State.readByte_enterInterrupt_downward (s : State) (r : Word) (b : Byte) (v k : Word) :
    (s.enterInterrupt r b v).readByte k =
      if k = stackAddr s.sp then hi r
      else if k = stackAddr (s.sp - 1#8) then lo r
      else if k = stackAddr (s.sp - 2#8) then b else s.readByte k := by
  have hthird : stackAddr (s.sp - 2#8) ≠ stackAddr s.sp := by
    rw [Ne, stackAddr_inj]
    bv_omega
  have hsecond : stackAddr (s.sp - 2#8) ≠ stackAddr (s.sp - 1#8) := by
    rw [Ne, stackAddr_inj]
    bv_omega
  have hentry : (s.enterInterrupt r b v).readByte k =
      if k = stackAddr (s.sp - 2#8) then b else (s.push16 r).readByte k := by
    rw [State.readByte_enterInterrupt, sub_one_sub_one, State.readByte_push16]
  rw [hentry, State.readByte_push16_downward]
  by_cases hk : k = stackAddr (s.sp - 2#8)
  · subst hk
    rw [if_pos rfl, if_neg hthird, if_neg hsecond, if_pos rfl]
  · rw [if_neg hk, if_neg hk]

/-- An interrupt entry pushes the frame of R292, the return address and the status it is given. -/
theorem State.framePushed_enterInterrupt (s : State) (r : Word) (b : Byte) (v : Word) :
    framePushed s (s.enterInterrupt r b v) r b := by
  refine ⟨?_, State.readByte_enterInterrupt_downward s r b v⟩
  rw [State.enterInterrupt_sp, sub_one_sub_one]
  exact BitVec.sub_sub s.sp 1#8 2#8

/-- The IRQ/BRK vector is not in the stack page, so the entry loads PC from it as it stood. -/
theorem State.enterInterrupt_irqVector (s : State) (r : Word) (b : Byte) :
    (s.enterInterrupt r b irqVector).pc = s.readWord irqVector :=
  State.enterInterrupt_vector s r b irqVector (by decide) (by decide)

@[simp] theorem State.readWord_pc (s : State) (p k : Word) :
    State.readWord { s with pc := p } k = s.readWord k := rfl

/-- Returning from an interrupt writes SP, SR and PC alone, from the three bytes above SP (R293). -/
theorem State.returnFromInterrupt_eq (s : State) :
    s.returnFromInterrupt = { s with
      sp := s.sp + 3#8
      sr := s.popByte ||| 0x20#8
      pc := word (s.readByte (stackAddr (s.sp + 3#8))) (s.readByte (stackAddr (s.sp + 2#8))) } := by
  have hsecond : s.popped.sp + 1#8 = s.sp + 2#8 := BitVec.add_assoc s.sp 1#8 1#8
  have hthird : s.popped.sp + 2#8 = s.sp + 3#8 := BitVec.add_assoc s.sp 1#8 2#8
  have hpc : s.popped.popWord =
      word (s.readByte (stackAddr (s.sp + 3#8))) (s.readByte (stackAddr (s.sp + 2#8))) := by
    rw [State.popWord_eq, hsecond, hthird, State.readByte_popped, State.readByte_popped]
  have hsp : s.popped.popped.popped.sp = s.sp + 3#8 := by rw [State.popped_popped, ← hthird]
  rw [← hpc, ← hsp]
  rfl

/-- R293: RTI is the return from an interrupt on the state past the instruction. -/
theorem exec_rti (s : State) : exec .rti s = .next (passed .rti 0 s).returnFromInterrupt := rfl

end Sys2Proof.Machine
end

section
/-! The settled statements of the interrupt instructions (47_interrupt_instr.md). -/

namespace Sys2Proof.Machine

open Sys2Proof Sys2Proof.Claims

/-- Settles O43: BRK is an interrupt entry with Break and Unused set in the status it pushes, so
the statement is the entry's: its frame, its one flag, its vector, and what it leaves unchanged. -/
theorem breakResult : Obligations.BreakResult := by
  intro s
  refine ⟨_, exec_brk s, ?_, fun f => ?_, ?_, ?_⟩
  · exact State.framePushed_enterInterrupt { s with pc := nextPC .brk s } (s.pc + 2#16)
      (statusBreakSet s.sr) irqVector
  · rw [State.flag_charge, State.flag_enterInterrupt, State.flag_pc]
  · rw [State.charge_pc, State.enterInterrupt_irqVector, State.readWord_pc, irqVector]
  · simp only [State.charge_default, State.enterInterrupt_a, State.enterInterrupt_x,
      State.enterInterrupt_y, State.enterInterrupt_cyc, State.enterInterrupt_diag]

/-- Settles O44: the return pops the status and then the word above it, which is PC as it stands. -/
theorem returnFromInterruptResult : Obligations.ReturnFromInterruptResult := by
  intro s
  rw [exec_rti, State.returnFromInterrupt_eq]
  rfl

end Sys2Proof.Machine
end

section
/-! SUPPORT. What an interrupt request leaves when it is taken, the same for irq() and nmi() but for
its vector and its cycles, and the flags reset() leaves (60_exceptions.md R300, R302,
70_reset_and_hazards.md R340). -/

namespace Sys2Proof.Machine

open Sys2Proof Sys2Proof.Claims

/-- `t` is `s` with a request taken: the frame of PC and of SR with Break clear, I set, PC from
`vector`, `cycles` charged, and nothing else changed (R300, R302). -/
def requestTaken (s t : State) (vector : Word) (cycles : Nat) : Prop :=
  framePushed s t s.pc (statusBreakClear s.sr) ∧
  (∀ f, t.flag f = if f = .I then true else s.flag f) ∧
  t.pc = s.readWord vector ∧
  { t with mem := s.mem, sp := s.sp, sr := s.sr, pc := s.pc } = { s with cyc := s.cyc + cycles }

/-- A charged entry is a request taken, whatever its vector outside the stack page: the frame cannot
overwrite the vector, and the charge reaches CYC alone. -/
theorem requestTaken_enterInterrupt (s : State) (vector : Word) (cycles : Nat)
    (hlow : 0x01FF < vector.toNat) (hhigh : 0x01FF < (vector + 1#16).toNat) :
    requestTaken s
      ((s.enterInterrupt s.pc (statusBreakClear s.sr) vector).charge defaultParams cycles)
      vector cycles := by
  refine ⟨?_, fun f => ?_, ?_, ?_⟩
  · exact State.framePushed_enterInterrupt s s.pc (statusBreakClear s.sr) vector
  · rw [State.flag_charge, State.flag_enterInterrupt]
  · rw [State.charge_pc, State.enterInterrupt_vector s _ _ vector hlow hhigh]
  · simp only [State.charge_default, State.enterInterrupt_a, State.enterInterrupt_x,
      State.enterInterrupt_y, State.enterInterrupt_cyc, State.enterInterrupt_diag]

theorem hostIrq_of_masked {s : State} (h : s.flag .I = true) : hostIrq s = s := if_pos h

theorem hostIrq_of_unmasked {s : State} (h : s.flag .I = false) :
    hostIrq s =
      (s.enterInterrupt s.pc (statusBreakClear s.sr) irqVector).charge defaultParams irqCycles :=
  if_neg (Bool.eq_false_iff.mp h)

/-- `reset()` sets InterruptDisable and Unused and clears every other flag (R340, D3). -/
theorem flag_hostReset (s : State) (f : Flag) :
    (hostReset s).flag f = decide (f = .I ∨ f = .U) := by
  have hsr : (hostReset s).flag f = getFlag f Config.resetSR := rfl
  rw [hsr]
  cases f <;> decide

end Sys2Proof.Machine
end

section
/-! The settled statements of the interrupt requests (60_exceptions.md) and of reset
(70_reset_and_hazards.md). -/

namespace Sys2Proof.Machine

open Sys2Proof Sys2Proof.Claims

/-- Settles O46: a masked request is forgotten, an unmasked one is taken through 0xFFFE. -/
theorem irqEntry : Obligations.IrqEntry := by
  refine fun s => ⟨hostIrq_of_masked, fun hI => ?_⟩
  rw [hostIrq_of_unmasked hI]
  exact requestTaken_enterInterrupt s irqVector irqCycles (by decide) (by decide)

/-- Settles O47: nmi() is a request taken through 0xFFFA, with no test of I before it. -/
theorem nmiEntry : Obligations.NmiEntry := fun s =>
  requestTaken_enterInterrupt s nmiVector nmiCycles (by decide) (by decide)

/-- Settles O49: the flags are those of 0x24, PC is the little-endian word at 0xFFFC, and no other
part of the result depends on the registers before it. -/
theorem hostResetResult : Obligations.HostResetResult := by
  refine fun s => ⟨rfl, flag_hostReset s .I, flag_hostReset s .U, fun f hI hU => ?_, rfl, ?_,
    rfl, rfl, rfl, rfl, rfl⟩
  · rw [flag_hostReset, decide_eq_false_iff_not, not_or]
    exact ⟨hI, hU⟩
  · exact word_toNat (s.readByte 0xFFFD#16) (s.readByte 0xFFFC#16)

/-- Settles O50: construction resets a core with no cell listed, so each cell, and with them the
reset vector, reads 0. -/
theorem resetState : Obligations.ResetState := by
  have hconstruct : State.reset = construct := by decide
  exact ⟨hconstruct, rfl, rfl, rfl, rfl, rfl, rfl, rfl, rfl, fun _ => rfl⟩

end Sys2Proof.Machine
end
